-- ==== Sys2Proof/Word.lean ====
section
/-! DEFINITION. The words the manual treats as bits: one byte of a message, of the frame memory or of a
pixel component (Conventions, 0.7), the 16-bit named counters, and the 32-bit timebase and CRC-32. -/

namespace Sys2Proof

/-- One byte. -/
abbrev Byte := BitVec 8

/-- A named 16-bit counter, which wraps modulo 65536 (0.7). -/
abbrev Half := BitVec 16

/-- A timebase value or a CRC-32 (R67, R32). -/
abbrev Word := BitVec 32

end Sys2Proof
end

