-- ==== Sys2Proof/Syntax.lean ====
section
/-! DEFINITION. The commands of the Zigfold ZG4-160: one constructor per row of spec/opcode_table.json.

A request command carries the request's TAG and its payload bytes as received, because the size test
(R157) and the range tests (R156) are made on those bytes. A camera event carries its camera (the ports
are wires, so there is no camera 4). `line` carries the bytes of one camera line in the order of R52:
Cb, Y of the left pixel, Cr, Y of the right pixel for each pair. -/

namespace Sys2Proof

inductive Instr where
  -- reset and start-up
  | pinReset
  | dramInOperation
  -- control link
  | selectWindowStart
  | selectWindowEnd (inbound : List Byte)
  | unknownKind (kind tag : Byte) (payload : List Byte)
  -- reports and link settings
  | ident (tag : Byte) (payload : List Byte)
  | status (tag : Byte) (payload : List Byte)
  | snapshot (tag : Byte) (payload : List Byte)
  | history (tag : Byte) (payload : List Byte)
  | noticeMask (tag : Byte) (payload : List Byte)
  | reset (tag : Byte) (payload : List Byte)
  -- cameras and timing
  | camSetup (tag : Byte) (payload : List Byte)
  | camOn (tag : Byte) (payload : List Byte)
  | camOff (tag : Byte) (payload : List Byte)
  | outSetup (tag : Byte) (payload : List Byte)
  -- banks and body plane
  | bankOpen (tag : Byte) (payload : List Byte)
  | bankWrite (tag : Byte) (payload : List Byte)
  | bankClose (tag : Byte) (payload : List Byte)
  | bankRead (tag : Byte) (payload : List Byte)
  | bodyWrite (tag : Byte) (payload : List Byte)
  -- staging
  | heightTable (tag : Byte) (payload : List Byte)
  | height (tag : Byte) (payload : List Byte)
  | doors (tag : Byte) (payload : List Byte)
  | exclude (tag : Byte) (payload : List Byte)
  | gains (tag : Byte) (payload : List Byte)
  -- top states
  | start (tag : Byte) (payload : List Byte)
  | stop (tag : Byte) (payload : List Byte)
  | single (tag : Byte) (payload : List Byte)
  -- camera events
  | frameStart (cam : Fin 4)
  | line (cam : Fin 4) (samples : List Byte)
  | frameEnd (cam : Fin 4)
  | lossTimerExpiry (cam : Fin 4)
  -- timer, composer, memory and display events
  | cadenceMark
  | selectionEvent (cam : Fin 4)
  | tileDecision
  | sampleArithmeticDone
  | burstComplete
  | lineTimeEnd
  | lineUnderrun
  | resetInputAsserted
  deriving DecidableEq, Repr

end Sys2Proof
end

