-- ==== Sys2Proof/Decode.lean ====
section
/-! DEFINITION. The command that a word of the opcode table's bits spells. No row of
spec/opcode_table.json gives any bits (its "fields" are empty and no row has "fixed"), so no word spells a
command. Requests are read from their message bytes by SELECT_WINDOW_END (Machine/Window.lean). -/

namespace Sys2Proof

/-- The table gives no row any bits, so every word spells none (log 15). -/
def decodeTableWord (_nbits _w : Nat) : Option Instr := none

end Sys2Proof
end

