-- ==== Sys2Proof/Config.lean ====
section
/-! DEFINITION. The free value of the model. The manual fixes everything else. -/

namespace Sys2Proof

/-- FREE VALUE (log 3). Where several timer events fall at one microsecond the manual lets either be
taken first (R48, R64, R65, R152). The tick draws their order from this constant, applied to the
counter `State.ties`; it has no body, so every claim holds for every order. -/
opaque Config.tieOrder : Nat → Nat

end Sys2Proof
end

