-- ==== Sys2Proof/Machine/State.lean ====
section
/-! DEFINITION. The state of the ZG4-160 as plain data, block by block (Table 0-1), the state right after
a pin reset, and the reasons a step can stop. Absent fields of a record are carried by constructors, so a
record cannot hold a field that its state does not have (Tables 3-4, 2-2, 7-2). -/

namespace Sys2Proof.Machine

/-! ### Pixels and parameters (Sections 1 and 4) -/

/-- One pixel (Y, Cb, Cr), each 0 to 255 (0.7). -/
structure Pixel where
  y : Byte
  cb : Byte
  cr : Byte
  deriving DecidableEq, Repr

/-- One entry of a height table: a key in mm and a bank (R36). -/
structure TableEntry where
  key : Int
  bank : Fin 8
  deriving DecidableEq, Repr

/-- Gain mode (R81). -/
inductive GainMode where
  | auto
  | manual
  deriving DecidableEq, Repr

/-- The bank pair and the fraction of R4. -/
structure BankPair where
  low : Fin 8
  high : Fin 8
  f : Nat
  deriving DecidableEq, Repr

/-- A parameter set, Table 4-3. Bit c of `exclude` excludes camera c (R80). -/
structure Params where
  table : Option (List TableEntry)
  height : Int
  leftOpen : Bool
  rightOpen : Bool
  exclude : BitVec 4
  gains : Vector Nat 4
  mode : GainMode
  fill : Pixel
  void : Pixel
  holdLimit : Nat
  deriving DecidableEq, Repr

/-- The values of Table 4-3 after either reset. -/
def Params.default : Params where
  table := none
  height := 0
  leftOpen := false
  rightOpen := false
  exclude := 0#4
  gains := Vector.replicate 4 256
  mode := .auto
  fill := ⟨16#8, 128#8, 128#8⟩
  void := ⟨64#8, 128#8, 128#8⟩
  holdLimit := 10

/-! ### Control link (Section 10) -/

/-- A message of the outbound queue. Its sync, LENGTH and CHECK follow from these fields (Table 11-1),
so they are fixed when it is queued (R148). -/
structure Message where
  kind : Byte
  tag : Byte
  payload : List Byte
  deriving DecidableEq, Repr

/-- A select window in progress: the message fixed at its start, or zeros (R146). -/
structure Window where
  out : Option Message
  deriving DecidableEq, Repr

/-- The link controller's own state (R146, R147, R151, R152, R154). -/
structure Link where
  queue : List Message
  mask : BitVec 6
  missed : Bool
  errors : Half
  window : Option Window
  deriving DecidableEq, Repr

/-- Table after either reset, R155. -/
def Link.default : Link where
  queue := []
  mask := 0x3F#6
  missed := false
  errors := 0#16
  window := none

/-- The memory work of a request that holds the inbound request slot (R26, R27, R29, R125). -/
inductive JobWork where
  | bankFill (bank : Fin 8)
  | bankWrite (bank : Fin 8) (sect : Fin 6) (offset : Nat) (data : List Byte)
  | bankRead (bank : Fin 8) (sect : Fin 6) (offset length : Nat)
  | bodyWrite (tile : Fin 384) (offset : Nat) (data : List Byte)
  deriving DecidableEq, Repr

/-- The request in the inbound request slot (R149): its KIND and TAG for the owed reply, its work, the
bytes moved so far and, for a read, the bytes that have arrived. -/
structure Job where
  kind : Byte
  tag : Byte
  work : JobWork
  moved : Nat
  got : List Byte
  deriving DecidableEq, Repr

/-! ### Camera ports and frame rings (Section 3) -/

/-- Setup record, Table 3-2. -/
structure Setup where
  width : Nat
  height : Nat
  acquire : Nat
  lossMs : Nat
  staleMs : Nat
  deriving DecidableEq, Repr

/-- Table 3-2, the value after either reset. -/
def Setup.default : Setup := ⟨1280, 960, 2, 200, 100⟩

/-- Camera states, Table 3-3. -/
inductive CamState where
  | off
  | acquiring
  | live
  | lost
  deriving DecidableEq, Repr

/-- Damage classes, Table 3-5. -/
inductive DamageClass where
  | interrupted
  | lineLength
  | lineCount
  | overrun
  deriving DecidableEq, Repr

/-- Slot record, Table 3-4. The used flag is always clear in FILLING and always set in IN_USE, so only
READY carries it. -/
inductive RingSlot where
  | empty
  | filling (number : Half) (start : Word) (lines : Nat)
  | ready (number : Half) (start finish : Word) (lines : Nat) (used : Bool)
  | inUse (number : Half) (start finish : Word) (lines : Nat)
  deriving DecidableEq, Repr

/-- A pending line of the line FIFO: where it goes, its converted bytes, and how many of them are in
DRAM (R55, R56). -/
structure PendingLine where
  slot : Fin 4
  row : Nat
  data : List Byte
  written : Nat
  deriving DecidableEq, Repr

/-- The state each camera port holds, Table 3-1. -/
structure Camera where
  setup : Setup
  state : CamState
  good : Nat
  loss : Option Nat
  fifo : List PendingLine
  mark : Option DamageClass
  lastDamage : Option DamageClass
  damage : Half
  skipped : Half
  frameCounter : Half
  discard : Bool
  slots : Vector RingSlot 4
  deriving DecidableEq, Repr

/-- A camera port after either reset (R66). -/
def Camera.default : Camera where
  setup := Setup.default
  state := .off
  good := 0
  loss := none
  fifo := []
  mark := none
  lastDamage := none
  damage := 0#16
  skipped := 0#16
  frameCounter := 0#16
  discard := false
  slots := Vector.replicate 4 .empty

/-! ### Timebase and cadence timer (Section 4) -/

/-- A period and four selection offsets, in µs (R69). -/
structure Timing where
  period : Nat
  offsets : Vector Nat 4
  deriving DecidableEq, Repr

/-- Table 4-1. -/
structure Timer where
  timebase : Word
  counter : Nat
  timing : Timing
  pendingTiming : Option Timing
  armed : Vector Bool 4
  lateRun : Bool
  deriving DecidableEq, Repr

/-- Table 4-1 after either reset (R82). -/
def Timer.default : Timer where
  timebase := 0#32
  counter := 0
  timing := ⟨33333, Vector.replicate 4 0⟩
  pendingTiming := none
  armed := Vector.replicate 4 false
  lateRun := false

/-! ### Bank manager (Section 2) -/

/-- A bank directory entry, Table 2-2. -/
inductive BankEntry where
  | empty
  | loading
  | verifying (check : Word)
  | ready (digest : Word)
  | faulty
  deriving DecidableEq, Repr

/-- The verify engine's bank in hand and the bytes it has read, in bank order (R31). -/
structure Engine where
  bank : Fin 8
  bytes : List Byte
  deriving DecidableEq, Repr

/-- The bank manager: directory, verify queue (oldest first) and verify engine. -/
structure Banks where
  dir : Vector BankEntry 8
  queue : List (Fin 8)
  engine : Option Engine
  deriving DecidableEq, Repr

/-- The bank manager after a pin reset (R41). -/
def Banks.default : Banks := ⟨Vector.replicate 8 .empty, [], none⟩

/-! ### Composer (Section 5) -/

/-- Composer states (R83). -/
inductive ComposerState where
  | idle
  | issuing
  | waiting
  | draining
  | abandoning
  deriving DecidableEq, Repr

/-- Why a camera is unavailable: Table 3-7 and NOT_REACHED (R75). -/
inductive Reason where
  | off
  | acquiring
  | lost
  | excluded
  | obstructed
  | stale
  | notReached
  deriving DecidableEq, Repr

/-- An available answer (R62). -/
structure Answer where
  slot : Fin 4
  frame : Half
  age : Word
  width : Nat
  height : Nat
  deriving DecidableEq, Repr

/-- An entry of the selection table (R86). -/
inductive Selection where
  | pending
  | available (a : Answer)
  | unavailable (r : Reason)
  deriving DecidableEq, Repr

/-- A well-formed tile record (R5, R22). -/
inductive TileRecord where
  | void
  | single (primary : Fin 4)
  | blend (primary secondary zone : Fin 4)
  | body
  deriving DecidableEq, Repr

/-- A tile's treatment (R90, R91); a HELD tile names the hold source it is copied from. -/
inductive Treatment where
  | fresh
  | held (source : Fin 3)
  | filled
  deriving DecidableEq, Repr

/-- A camera that a FRESH tile is made from, with the answer of its selection. -/
structure View where
  cam : Fin 4
  answer : Answer
  deriving DecidableEq, Repr

/-- A decided tile with all that its stages need: its record and treatment, the composing slot it is
stored into, the bank pair and f, and its available needed cameras in camera order (R95). -/
structure Tile where
  index : Nat
  record : TileRecord
  treatment : Treatment
  slot : Fin 3
  pair : BankPair
  views : List View
  deriving DecidableEq, Repr

/-- A run of consecutive DRAM bytes (R129). -/
structure Run where
  addr : Nat
  len : Nat
  deriving DecidableEq, Repr

/-- FETCH: bursts still to read and the bytes read (R95). -/
structure FetchStage where
  tile : Tile
  todo : List Run
  got : List Byte
  deriving DecidableEq, Repr

/-- SAMPLE: what FETCH read, the source bursts still to read, the source bytes read, and the tile's
3,072 bytes once they are known (R95). -/
structure SampleStage where
  tile : Tile
  fetched : List Byte
  todo : List Run
  got : List Byte
  pixels : Option (List Byte)
  deriving DecidableEq, Repr

/-- STORE: the tile's 3,072 bytes and how many of them are in DRAM (R95). -/
structure StoreStage where
  tile : Tile
  pixels : List Byte
  written : Nat
  deriving DecidableEq, Repr

/-- A kept run of 64 tile records (R130). -/
structure MapRun where
  run : Nat
  bytes : List Byte
  deriving DecidableEq, Repr

/-- Frame outcome, Table 5-5. -/
inductive FrameOutcome where
  | published
  | abandoned
  deriving DecidableEq, Repr

/-- Frame record, Table 5-5. -/
structure FrameRecord where
  seq : Half
  markTime : Word
  outcome : FrameOutcome
  issued : Nat
  answers : Vector Selection 4
  gains : Vector Nat 4
  height : Int
  pair : BankPair
  fresh : Nat
  held : Nat
  filled : Nat
  deriving DecidableEq, Repr

/-- The composer, Table 5-1, with the tile-map runs it keeps (R130). -/
structure Composer where
  state : ComposerState
  index : Nat
  decided : Option Tile
  fetch : Option FetchStage
  sample : Option SampleStage
  store : Option StoreStage
  mapRuns : List MapRun
  selection : Vector Selection 4
  slot : Option (Fin 3)
  hold : Option (Fin 3)
  markTime : Word
  holdTable : Vector Nat 384
  freshStart : Bool
  coverage : Option (Vector Bool 4)
  fresh : Nat
  held : Nat
  filled : Nat
  seq : Half
  late : Half
  history : List FrameRecord
  deriving DecidableEq, Repr

/-- Table 5-1 after either reset (R106); the mark time 0 is a DESIGN CHOICE (log 13). -/
def Composer.default : Composer where
  state := .idle
  index := 0
  decided := none
  fetch := none
  sample := none
  store := none
  mapRuns := []
  selection := Vector.replicate 4 .pending
  slot := none
  hold := none
  markTime := 0#32
  holdTable := Vector.replicate 384 0
  freshStart := false
  coverage := none
  fresh := 0
  held := 0
  filled := 0
  seq := 0#16
  late := 0#16
  history := []

/-! ### Balance unit (Section 6) -/

/-- Zone statistics record, Table 6-1. -/
structure Zone where
  first : Nat
  second : Nat
  count : Nat
  deriving DecidableEq, Repr

/-- All four zone records at zero (R107). -/
def Zone.cleared : Vector Zone 4 := Vector.replicate 4 ⟨0, 0, 0⟩

/-! ### Output controller (Section 7) -/

/-- Output slot record, Table 7-2; the sequence number is absent in FREE (R115). -/
inductive OutSlot where
  | free
  | composing (seq : Half)
  | published (seq : Half)
  | scanning (seq : Half)
  deriving DecidableEq, Repr

/-- A line place of the line buffer: its line, the bytes that have arrived, and whether an underrun
dropped the rest of its fetch (R120, R121). -/
structure LinePlace where
  line : Nat
  got : List Byte
  dropped : Bool
  deriving DecidableEq, Repr

/-- The output controller, Table 7-1. -/
structure Output where
  slots : Vector OutSlot 3
  blank : Bool
  source : Option (Fin 3)
  places : List LinePlace
  nextLine : Nat
  linesEnded : Nat
  underruns : Half
  reported : Bool
  deriving DecidableEq, Repr

/-- Table 7-1 after either reset (R126). -/
def Output.default : Output where
  slots := Vector.replicate 3 .free
  blank := false
  source := none
  places := []
  nextLine := 0
  linesEnded := 0
  underruns := 0#16
  reported := false

/-! ### Frame memory and its arbiter (Section 8) -/

/-- Whose work a burst does (Table 8-2); the body fill is the memory start's own (R128). -/
inductive Client where
  | scan (line : Nat)
  | camera (cam : Fin 4)
  | store
  | sample
  | fetch
  | tileMap (run : Nat)
  | job
  | verify
  | bodyFill
  deriving DecidableEq, Repr

/-- The burst on the DRAM port (R129). A write carries its bytes. `wanted` is clear once the work it
belongs to has been ended: the burst still completes, and its requester takes nothing from it. -/
structure Burst where
  client : Client
  addr : Nat
  len : Nat
  data : Option (List Byte)
  wanted : Bool
  deriving DecidableEq, Repr

/-- The two sources that AUX serves (R131). -/
inductive AuxSource where
  | job
  | verify
  deriving DecidableEq, Repr

/-- The DRAM port, the last camera granted (R132), and the AUX source served last (R131). -/
structure Arbiter where
  port : Option Burst
  lastCam : Fin 4
  auxLast : AuxSource
  deriving DecidableEq, Repr

/-- After either reset (R133, R131): the first camera grant goes to the lowest-numbered camera, the first
AUX grant to the request job (DEDUCED, log 11). -/
def Arbiter.default : Arbiter := ⟨none, 3, .verify⟩

/-- The memory start (R128): bringing the DRAM into operation, the body fill with the number of bursts
in DRAM, or complete. -/
inductive MemStart where
  | bringUp
  | bodyFill (done : Nat)
  | complete
  deriving DecidableEq, Repr

/-! ### Top-state control (Section 9) -/

/-- Top states (R134). -/
inductive TopState where
  | idle
  | run
  | shot
  | frozen
  deriving DecidableEq, Repr

/-- Table 9-1. -/
structure Top where
  state : TopState
  shotPending : Bool
  repeatShot : Bool
  deriving DecidableEq, Repr

/-- Table 9-1 after either reset. -/
def Top.default : Top := ⟨.idle, false, false⟩

/-! ### The whole part -/

/-- The state of the part. `mem` is the DRAM as the bytes that differ from `Memory.background`, addresses
strictly rising. `pending` is the queue of waiting commands and `ties` the number of free values the tick
has read: these two are the model's own (log 1, log 3). -/
structure State where
  pending : List Instr
  ties : Nat
  resetAsserted : Bool
  memStart : MemStart
  link : Link
  slot : Option Job
  stopOwed : Option Byte
  cams : Vector Camera 4
  timer : Timer
  staged : Params
  active : Params
  top : Top
  banks : Banks
  comp : Composer
  zones : Vector Zone 4
  out : Output
  arb : Arbiter
  mem : List Host.Cell
  deriving DecidableEq, Repr

/-- Why the part stops. The manual gives no such stop: each reason stands for a state that the manual
says never arises, and is safe (log 12). -/
inductive Fault where
  /-- Raised by CADENCE_MARK at a composition start that finds no FREE output slot, which R84 says cannot
  happen. Safe. -/
  | noFreeOutputSlot
  /-- Raised by CADENCE_MARK at a composition start with no staged height table, which R135 and R136 rule
  out (R4). Safe. -/
  | noHeightTable
  /-- Raised by TILE_DECISION at a tile record that is not well formed, which verification rules out
  (R5). Safe. -/
  | malformedTile
  deriving DecidableEq, Repr

/-- Why a command has no meaning. -/
inductive Refusal where
  /-- Raised by `exec` for a command whose meaning is not written yet; no command is. Safe. -/
  | notModelled (mnemonic : String)
  deriving DecidableEq, Repr

/-- The part right after a pin reset is taken (R139): every block at its pin-reset values, the memory
start begun, nothing on the DRAM port. -/
def State.reset : State where
  pending := []
  ties := 0
  resetAsserted := false
  memStart := .bringUp
  link := Link.default
  slot := none
  stopOwed := none
  cams := Vector.replicate 4 Camera.default
  timer := Timer.default
  staged := Params.default
  active := Params.default
  top := Top.default
  banks := Banks.default
  comp := Composer.default
  zones := Zone.cleared
  out := Output.default
  arb := Arbiter.default
  mem := []

/-! ### One update per field -/

def State.setPending (s : State) (v : List Instr) : State := { s with pending := v }
def State.setTies (s : State) (v : Nat) : State := { s with ties := v }
def State.setResetAsserted (s : State) (v : Bool) : State := { s with resetAsserted := v }
def State.setMemStart (s : State) (v : MemStart) : State := { s with memStart := v }
def State.setLink (s : State) (v : Link) : State := { s with link := v }
def State.setSlot (s : State) (v : Option Job) : State := { s with slot := v }
def State.setStopOwed (s : State) (v : Option Byte) : State := { s with stopOwed := v }
def State.setCams (s : State) (v : Vector Camera 4) : State := { s with cams := v }
def State.setTimer (s : State) (v : Timer) : State := { s with timer := v }
def State.setStaged (s : State) (v : Params) : State := { s with staged := v }
def State.setActive (s : State) (v : Params) : State := { s with active := v }
def State.setTop (s : State) (v : Top) : State := { s with top := v }
def State.setBanks (s : State) (v : Banks) : State := { s with banks := v }
def State.setComp (s : State) (v : Composer) : State := { s with comp := v }
def State.setZones (s : State) (v : Vector Zone 4) : State := { s with zones := v }
def State.setOut (s : State) (v : Output) : State := { s with out := v }
def State.setArb (s : State) (v : Arbiter) : State := { s with arb := v }
def State.setMem (s : State) (v : List Host.Cell) : State := { s with mem := v }

/-- Replace one camera port. -/
def State.setCam (s : State) (c : Fin 4) (v : Camera) : State := s.setCams (s.cams.set c v)

/-- The outcome of one command. -/
abbrev Result := Host.Outcome State Fault Refusal

end Sys2Proof.Machine
end

