-- ==== Sys2Proof/Machine/Ops.lean ====
section
/-! DEFINITION. The shared operations: byte order, the DRAM as a canonical list of cells, its regions
(Table 8-1), and runs of bytes cut into bursts (R129). -/

namespace Sys2Proof.Machine

/-! ### Byte order (0.7, R156) -/

/-- The low byte of a number. -/
def byteOf (n : Nat) : Byte := BitVec.ofNat 8 n

/-- Two bytes, low byte first. -/
def le16 (n : Nat) : List Byte := [byteOf n, byteOf (n / 256)]

/-- Four bytes, low byte first. -/
def le32 (n : Nat) : List Byte := [byteOf n, byteOf (n / 256), byteOf (n / 65536), byteOf (n / 16777216)]

/-- A signed 16-bit value in two's complement, low byte first (R156). -/
def leInt16 (n : Int) : List Byte := le16 (BitVec.ofInt 16 n).toNat

/-- The number that bytes spell, low byte first. -/
def ofLe : List Byte → Nat
  | [] => 0
  | b :: bs => b.toNat + 256 * ofLe bs

/-- Bytes `i` to `i + n - 1` of a run. -/
def slice (bs : List Byte) (i n : Nat) : List Byte := (bs.drop i).take n

/-- Byte `i` of a run; 0 past its end, which no caller reaches. -/
def byteAt (bs : List Byte) (i : Nat) : Byte := bs.getD i 0#8

/-! ### Regions of the frame memory (Table 8-1)

The manual gives the regions' sizes and no base addresses; the model lays them out in the table's order
from address 0 (DESIGN CHOICE, log 4). -/

/-- 64 MiB (8.1). -/
def dramSize : Nat := 67108864

/-- Bytes of one frame-ring slot, 1,280 × 960 × 3. -/
def ringSlotSize : Nat := 3686400

/-- Bytes of one output slot, and of the body plane. -/
def canvasSize : Nat := 1179648

/-- Bytes of one bank (Table 2-1). -/
def bankSize : Nat := 108721

def outBase : Nat := 58982400
def bankBase : Nat := 62521344
def bodyBase : Nat := 63391112

/-- Slot `k` of camera `c`'s frame ring. -/
def ringAddr (c k : Fin 4) : Nat := (c.val * 4 + k.val) * ringSlotSize

/-- Output slot `k`. -/
def outAddr (k : Fin 3) : Nat := outBase + k.val * canvasSize

/-- Bank `b`. -/
def bankAddr (b : Fin 8) : Nat := bankBase + b.val * bankSize

/-- First byte of a section within its bank (Table 2-1). -/
def sectionOffset (sec : Nat) : Nat :=
  if sec ≤ 4 then sec * 25220 else 107185

/-- Section sizes (Table 2-1). -/
def sectionSize (sec : Nat) : Nat :=
  if sec ≤ 3 then 25220 else if sec = 4 then 6305 else 1536

/-- Bytes of one tile of an output slot or of the body plane (R115). -/
def tileBytes : Nat := 3072

/-! ### The DRAM -/

/-- The fill content of a bank at byte `o` (R26): NONE points, weights 0, VOID records. -/
def bankFillByte (o : Nat) : Byte := if o < 100880 then 0xFF#8 else 0#8

/-- The body fill at byte `o` of the body plane: every pixel (16, 128, 128) (R124, R128). -/
def bodyFillByte (o : Nat) : Byte := if o % 3 = 0 then 16#8 else 128#8

/-- What an unlisted address reads as. The manual leaves the DRAM's content before it is written open and
says that nothing reads it (R128); the model takes the fill contents of R26 and R124 in their regions and
0 elsewhere (DESIGN CHOICE, unsafe, log 5). -/
def Memory.background (a : Nat) : Byte :=
  if bodyBase ≤ a ∧ a < bodyBase + canvasSize then bodyFillByte (a - bodyBase)
  else if bankBase ≤ a ∧ a < bodyBase then bankFillByte ((a - bankBase) % bankSize)
  else 0#8

/-- One byte of the DRAM. -/
def Memory.read : List Host.Cell → Nat → Byte
  | [], a => Memory.background a
  | (k, v) :: m, a => if k = a then v else Memory.read m a

/-- Put a cell in front, unless it holds what an unlisted address reads as. -/
def Memory.cons (a : Nat) (b : Byte) (m : List Host.Cell) : List Host.Cell :=
  if b = Memory.background a then m else (a, b) :: m

/-- Write one byte, keeping the canonical form. -/
def Memory.write : List Host.Cell → Nat → Byte → List Host.Cell
  | [], a, b => Memory.cons a b []
  | (k, v) :: m, a, b =>
    if a < k then Memory.cons a b ((k, v) :: m)
    else if a = k then Memory.cons a b m
    else (k, v) :: Memory.write m a b

/-- Read `n` bytes in ascending order. -/
def Memory.readRun (m : List Host.Cell) : Nat → Nat → List Byte
  | _, 0 => []
  | a, n + 1 => Memory.read m a :: Memory.readRun m (a + 1) n

/-- Write bytes in ascending order. -/
def Memory.writeRun (m : List Host.Cell) : Nat → List Byte → List Host.Cell
  | _, [] => m
  | a, b :: bs => Memory.writeRun (Memory.write m a b) (a + 1) bs

/-- The canonical form: addresses strictly rising from `lo` on, and no entry equal to what an unlisted
address reads as. -/
def Memory.wfFrom : Nat → List Host.Cell → Bool
  | _, [] => true
  | lo, (k, v) :: m => decide (lo ≤ k) && decide (v ≠ Memory.background k) && Memory.wfFrom (k + 1) m

/-- The canonical form of the whole memory. -/
def Memory.wf (m : List Host.Cell) : Bool := Memory.wfFrom 0 m

/-! ### Bursts (R129) -/

/-- Cut a run into bursts of 256 bytes, the last of the rest: (n + 255) div 256 of them, ascending. -/
def Run.cut (r : Run) : List Run :=
  (List.range ((r.len + 255) / 256)).map fun i => ⟨r.addr + 256 * i, min 256 (r.len - 256 * i)⟩

/-! ### Ring-free helpers -/

/-- The four cameras in camera order. -/
def cams4 : List (Fin 4) := [0, 1, 2, 3]

/-- Apply a state change once for each camera, in camera order. -/
def forCams (f : Fin 4 → State → State) (s : State) : State := f 3 (f 2 (f 1 (f 0 s)))

end Sys2Proof.Machine
end

