-- ==== Sys2Proof/Machine/Crc.lean ====
section
/-! DEFINITION. The two checks: the bank manager's CRC-32 (R32) and the link controller's CRC-16 (R148). -/

namespace Sys2Proof.Machine

/-- One of the eight shifts of R32. -/
def crc32Shift (r : Word) : Word :=
  if r.getLsbD 0 then (r >>> 1) ^^^ 0xEDB88320#32 else r >>> 1

/-- One byte of R32: into the low eight bits, then eight shifts. -/
def crc32Byte (r : Word) (b : Byte) : Word :=
  crc32Shift^[8] (r ^^^ b.setWidth 32)

/-- The CRC-32 of a run of bytes (R32). -/
def crc32 (bs : List Byte) : Word := bs.foldl crc32Byte 0xFFFFFFFF#32 ^^^ 0xFFFFFFFF#32

/-- One of the eight shifts of R148. -/
def crc16Shift (r : Half) : Half :=
  if r.getLsbD 15 then (r <<< 1) ^^^ 0x1021#16 else r <<< 1

/-- One byte of R148: into the high eight bits, then eight shifts. -/
def crc16Byte (r : Half) (b : Byte) : Half :=
  crc16Shift^[8] (r ^^^ (b.setWidth 16 <<< 8))

/-- The CRC-16 of a run of bytes (R148). -/
def crc16 (bs : List Byte) : Half := bs.foldl crc16Byte 0xFFFF#16

end Sys2Proof.Machine
end

