-- ==== Sys2Proof/Machine/Flags.lean ====
section
/-! DEFINITION. Status and enumeration codes (Tables 11-2 and 11-3), the derived flags and pins: queue
occupancy (R151), ATTN (R153), the hold of a memory start (R140). -/

namespace Sys2Proof.Machine

/-! ### Codes -/

/-- Reply statuses, Table 10-2. -/
inductive Status where
  | ok
  | accepted
  | busy
  | unknown
  | length
  | state
  | range
  | bankState
  | table
  deriving DecidableEq, Repr

/-- Status codes, Table 11-2. -/
def Status.code : Status → Byte
  | .ok => 0#8
  | .accepted => 1#8
  | .busy => 2#8
  | .unknown => 3#8
  | .length => 4#8
  | .state => 5#8
  | .range => 6#8
  | .bankState => 7#8
  | .table => 8#8

/-- Notices that the mask governs (R154), with their mask bit. STARTED is not in the mask. -/
inductive NoticeKind where
  | camera
  | bankResult
  | coverage
  | late
  | shotDone
  | underrun
  deriving DecidableEq, Repr

/-- Notice codes, Table 11-2. -/
def NoticeKind.code : NoticeKind → Byte
  | .camera => 0xE1#8
  | .bankResult => 0xE2#8
  | .coverage => 0xE3#8
  | .late => 0xE4#8
  | .shotDone => 0xE5#8
  | .underrun => 0xE6#8

/-- Bit places in a notice set, Table 11-3. -/
def NoticeKind.bit : NoticeKind → Nat
  | .camera => 0
  | .bankResult => 1
  | .coverage => 2
  | .late => 3
  | .shotDone => 4
  | .underrun => 5

def TopState.code : TopState → Byte
  | .idle => 0#8
  | .run => 1#8
  | .shot => 2#8
  | .frozen => 3#8

def ComposerState.code : ComposerState → Byte
  | .idle => 0#8
  | .issuing => 1#8
  | .waiting => 2#8
  | .draining => 3#8
  | .abandoning => 4#8

def BankEntry.code : BankEntry → Byte
  | .empty => 0#8
  | .loading => 1#8
  | .verifying _ => 2#8
  | .ready _ => 3#8
  | .faulty => 4#8

def CamState.code : CamState → Byte
  | .off => 0#8
  | .acquiring => 1#8
  | .live => 2#8
  | .lost => 3#8

/-- Damage class codes; none is 0 (Table 11-3). -/
def damageCode : Option DamageClass → Byte
  | none => 0#8
  | some .interrupted => 1#8
  | some .lineLength => 2#8
  | some .lineCount => 3#8
  | some .overrun => 4#8

def Reason.code : Reason → Byte
  | .off => 1#8
  | .acquiring => 2#8
  | .lost => 3#8
  | .excluded => 4#8
  | .obstructed => 5#8
  | .stale => 6#8
  | .notReached => 7#8

/-- Selection answer codes (Table 11-3). A record is written after R75 has settled every armed point; an
entry still PENDING then is sent as NOT_REACHED. -/
def Selection.code : Selection → Byte
  | .pending => 7#8
  | .available _ => 0#8
  | .unavailable r => r.code

def GainMode.code : GainMode → Byte
  | .auto => 0#8
  | .manual => 1#8

def FrameOutcome.code : FrameOutcome → Byte
  | .published => 0#8
  | .abandoned => 1#8

def flagCode (b : Bool) : Byte := if b then 1#8 else 0#8

/-! ### Derived flags and pins -/

/-- The memory start of a pin reset is running, so the queue is held and requests are answered BUSY
(R128, R140). -/
def State.starting (s : State) : Bool := decide (s.memStart ≠ .complete)

/-- Replies owed: the slot's and a STOP's (R151). -/
def State.owed (s : State) : Nat := (if s.slot.isSome then 1 else 0) + (if s.stopOwed.isSome then 1 else 0)

/-- Queue occupancy (R151). -/
def State.occupancy (s : State) : Nat := s.link.queue.length + s.owed

/-- ATTN (R153): active while a message is queued; inactive while the queue is held (R140) or the reset
input asserted (R139). -/
def State.attn (s : State) : Bool :=
  !s.resetAsserted && !s.starting && !s.link.queue.isEmpty

/-- A bank is listed in a height table (R37). -/
def listed (t : Option (List TableEntry)) (b : Fin 8) : Bool :=
  match t with
  | none => false
  | some es => es.any fun e => decide (e.bank = b)

/-- A bank is in use: listed in the staged or the active table (R37). -/
def State.bankInUse (s : State) (b : Fin 8) : Bool :=
  listed s.staged.table b || listed s.active.table b

/-- The mark time of the period in hand: the timebase minus the counter (R145). -/
def Timer.markTime (t : Timer) : Word := t.timebase - BitVec.ofNat 32 t.counter

end Sys2Proof.Machine
end

