-- ==== Sys2Proof/Machine/Operands.lean ====
section
/-! DEFINITION. Reading the fields of a request payload (Table 11-4): unsigned fields low byte first,
heights and keys signed in two's complement (R156). Offsets are within the payload; every reader is used
only after the payload's size has been tested (R157). -/

namespace Sys2Proof.Machine

/-- Unsigned byte field. -/
def u8At (p : List Byte) (i : Nat) : Nat := (byteAt p i).toNat

/-- Unsigned 16-bit field. -/
def u16At (p : List Byte) (i : Nat) : Nat := ofLe (slice p i 2)

/-- Unsigned 32-bit field. -/
def u32At (p : List Byte) (i : Nat) : Nat := ofLe (slice p i 4)

/-- Signed 16-bit field. -/
def i16At (p : List Byte) (i : Nat) : Int := (BitVec.ofNat 16 (u16At p i)).toInt

/-- A pixel field (Y, Cb, Cr). -/
def pixelAt (p : List Byte) (i : Nat) : Pixel := ⟨byteAt p i, byteAt p (i + 1), byteAt p (i + 2)⟩

/-- The three bytes of a pixel, in the order Y, Cb, Cr (R115). -/
def Pixel.bytes (p : Pixel) : List Byte := [p.y, p.cb, p.cr]

/-- "Clamped to a–b" (0.7), on integers. -/
def clampInt (lo hi n : Int) : Int := max lo (min hi n)

/-- "Clamped to a–b" (0.7), on natural numbers. -/
def clampNat (lo hi n : Nat) : Nat := max lo (min hi n)

/-- A CAM_SETUP payload's setup record (Table 11-4). -/
def setupOf (p : List Byte) : Setup := ⟨u16At p 1, u16At p 3, u8At p 5, u16At p 6, u8At p 8⟩

/-- Table 3-2: the ranges of a setup record. -/
def Setup.inRange (r : Setup) : Bool :=
  decide (320 ≤ r.width ∧ r.width ≤ 1280 ∧ r.width % 16 = 0) &&
  decide (240 ≤ r.height ∧ r.height ≤ 960 ∧ r.height % 8 = 0) &&
  decide (1 ≤ r.acquire ∧ r.acquire ≤ 8) &&
  decide (20 ≤ r.lossMs ∧ r.lossMs ≤ 1000) &&
  decide (10 ≤ r.staleMs ∧ r.staleMs ≤ 250)

/-- An OUT_SETUP payload's period and offsets (Table 11-4). -/
def timingOf (p : List Byte) : Timing :=
  ⟨u32At p 0, #v[u32At p 4, u32At p 8, u32At p 12, u32At p 16]⟩

/-- R69: the period's range, each offset below the period of the same request. -/
def Timing.inRange (t : Timing) : Bool :=
  decide (16667 ≤ t.period ∧ t.period ≤ 100000) && t.offsets.toList.all (fun o => decide (o < t.period))

/-- A HEIGHT_TABLE payload's entries as (key, bank number) (Table 11-4). -/
def rawEntriesOf (p : List Byte) : List (Int × Nat) :=
  (List.range (u8At p 0)).map fun i => (i16At p (1 + 3 * i), u8At p (3 + 3 * i))

/-- The entries of a table whose bank numbers have passed the range test of R38. -/
def entriesOf (raw : List (Int × Nat)) : List TableEntry :=
  raw.map fun e => ⟨e.1, Fin.ofNat 8 e.2⟩

/-- A GAINS payload's four gains, clamped to 128–512 (R81). -/
def gainsOf (p : List Byte) : Vector Nat 4 :=
  #v[clampNat 128 512 (u16At p 0), clampNat 128 512 (u16At p 2), clampNat 128 512 (u16At p 4),
     clampNat 128 512 (u16At p 6)]

end Sys2Proof.Machine
end

