-- ==== Sys2Proof/WellFormed.lean ====
section
/-! DEFINITION. Which commands the part's surroundings can send at all. `exec` is total and does not ask
for well-formedness; a refused request (wrong size, a field out of range) is well formed. -/

namespace Sys2Proof

/-- The request kinds of Table 11-2. -/
def requestKinds : List Byte :=
  [0x01#8, 0x02#8, 0x03#8, 0x04#8, 0x05#8, 0x06#8, 0x10#8, 0x11#8, 0x12#8, 0x18#8, 0x20#8, 0x21#8, 0x22#8,
   0x23#8, 0x24#8, 0x30#8, 0x31#8, 0x32#8, 0x33#8, 0x34#8, 0x40#8, 0x41#8, 0x42#8]

/-- The KIND, TAG and payload that a request command brings (Table 11-2); none for the other events. -/
def Instr.request? : Instr → Option (Byte × Byte × List Byte)
  | .unknownKind k t p => some (k, t, p)
  | .ident t p => some (0x01#8, t, p)
  | .status t p => some (0x02#8, t, p)
  | .snapshot t p => some (0x03#8, t, p)
  | .history t p => some (0x04#8, t, p)
  | .noticeMask t p => some (0x05#8, t, p)
  | .reset t p => some (0x06#8, t, p)
  | .camSetup t p => some (0x10#8, t, p)
  | .camOn t p => some (0x11#8, t, p)
  | .camOff t p => some (0x12#8, t, p)
  | .outSetup t p => some (0x18#8, t, p)
  | .bankOpen t p => some (0x20#8, t, p)
  | .bankWrite t p => some (0x21#8, t, p)
  | .bankClose t p => some (0x22#8, t, p)
  | .bankRead t p => some (0x23#8, t, p)
  | .bodyWrite t p => some (0x24#8, t, p)
  | .heightTable t p => some (0x30#8, t, p)
  | .height t p => some (0x31#8, t, p)
  | .doors t p => some (0x32#8, t, p)
  | .gains t p => some (0x33#8, t, p)
  | .exclude t p => some (0x34#8, t, p)
  | .start t p => some (0x40#8, t, p)
  | .stop t p => some (0x41#8, t, p)
  | .single t p => some (0x42#8, t, p)
  | .pinReset => none
  | .dramInOperation => none
  | .selectWindowStart => none
  | .selectWindowEnd _ => none
  | .frameStart _ => none
  | .line _ _ => none
  | .frameEnd _ => none
  | .lossTimerExpiry _ => none
  | .cadenceMark => none
  | .selectionEvent _ => none
  | .tileDecision => none
  | .sampleArithmeticDone => none
  | .burstComplete => none
  | .lineTimeEnd => none
  | .lineUnderrun => none
  | .resetInputAsserted => none

/-- Check 1: a request's payload fits its envelope, 0 to 1,024 bytes (10.1, R147). -/
def Instr.payloadFits (i : Instr) : Bool :=
  match i.request? with
  | some (_, _, p) => decide (p.length ≤ 1024)
  | none => true

/-- Check 2: an `unknownKind` carries a KIND that is none of the request kinds (R150). -/
def Instr.kindUnknown : Instr → Bool
  | .unknownKind k _ _ => !requestKinds.contains k
  | _ => true

/-- Check 3: a camera line carries whole 4:2:2 samples, two bytes per pixel (R52). -/
def Instr.wholePixels : Instr → Bool
  | .line _ bytes => decide (bytes.length % 2 = 0)
  | _ => true

/-- A command that the part's surroundings can send. -/
def Instr.wf (i : Instr) : Bool :=
  i.payloadFits && i.kindUnknown && i.wholePixels

end Sys2Proof
end

