-- ==== Sys2Proof/Machine/Link.lean ====
section
/-! DEFINITION. The control link (Section 10): messages and their bytes, replies and notices, and the
gate that every request passes before its owner sees it (R140, R147 step 6, R149). -/

namespace Sys2Proof.Machine

/-! ### Messages (Table 11-1, R148) -/

/-- LENGTH, KIND, TAG and payload: the bytes the CRC-16 covers. -/
def envelope (kind tag : Byte) (payload : List Byte) : List Byte :=
  le16 (payload.length + 2) ++ kind :: tag :: payload

/-- The bytes of a reply or notice: sync 0x5A, the envelope, CHECK low byte first. -/
def Message.bytes (m : Message) : List Byte :=
  0x5A#8 :: (envelope m.kind m.tag m.payload ++ le16 (crc16 (envelope m.kind m.tag m.payload)).toNat)

/-- The byte on the data-out line for byte `i` of the window in progress (R146); zeros when nothing is
sent and while the reset input is asserted (R139). -/
def State.dataOut (s : State) (i : Nat) : Byte :=
  match s.resetAsserted, s.link.window with
  | false, some ⟨some m⟩ => byteAt m.bytes i
  | _, _ => 0#8

/-! ### The outbound queue (R151, R152) -/

/-- A message joins the tail of the queue. -/
def State.enqueue (s : State) (m : Message) : State :=
  s.setLink { s.link with queue := s.link.queue ++ [m] }

/-- One more link error (R147). -/
def State.linkError (s : State) : State :=
  s.setLink { s.link with errors := s.link.errors + 1#16 }

/-- A reply's KIND: the request's plus 0x80, or 0xFF for an unknown KIND (R150). -/
def replyKind (kind : Byte) : Byte := if requestKinds.contains kind then kind + 0x80#8 else 0xFF#8

/-- Queue a reply that carries no data: the status byte alone, and for an unknown KIND that KIND after it
(R150, Table 11-5). -/
def State.replyStatus (s : State) (kind tag : Byte) (st : Status) : State :=
  s.enqueue ⟨replyKind kind, tag, if requestKinds.contains kind then [st.code] else [st.code, kind]⟩

/-- Queue an OK reply with its data (R150). -/
def State.replyOk (s : State) (kind tag : Byte) (data : List Byte) : State :=
  s.enqueue ⟨replyKind kind, tag, Status.ok.code :: data⟩

/-- A notice is handed to the link controller (R152). -/
def State.notice (s : State) (k : NoticeKind) (payload : List Byte) : State :=
  if s.link.mask.getLsbD k.bit = false then s
  else if 14 ≤ s.link.queue.length then s.setLink { s.link with missed := true }
  else s.enqueue ⟨k.code, 0#8, payload⟩

/-- The set of READY banks as a byte (R142, Table 11-3). -/
def readyBanks (dir : Vector BankEntry 8) : Nat :=
  (dir.toList.zipIdx.map fun eb => match eb.1 with
    | .ready _ => 2 ^ eb.2
    | _ => 0).sum

/-- The STARTED notice: reset kind and the READY banks (R142, Table 11-8). -/
def startedMessage (soft : Bool) (dir : Vector BankEntry 8) : Message :=
  ⟨0xE0#8, 0#8, [flagCode soft, byteOf (readyBanks dir)]⟩

/-! ### Taking a request (R140, R147 step 6, R149) -/

/-- The gate of a request of KIND `kind`: `body` is what its owner does. In order: no event is taken while
the reset input is asserted (R139); before the STARTED notice of a pin reset it is answered BUSY, or is a
link error when 13 replies are held (R140); at occupancy 16 it is a link error (R147); while the slot is
occupied it is answered BUSY, RESET excepted (R149, R141). -/
def passGate (kind tag : Byte) (body : State → State) (s : State) : State :=
  if s.resetAsserted then s
  else if s.starting then
    (if 13 ≤ s.link.queue.length then s.linkError else s.replyStatus kind tag .busy)
  else if 16 ≤ s.occupancy then s.linkError
  else if s.slot.isSome ∧ kind ≠ 0x06#8 then s.replyStatus kind tag .busy
  else body s

end Sys2Proof.Machine
end

