-- ==== Sys2Proof/Machine/Balance.lean ====
section
/-! DEFINITION. The balance unit (Section 6): zone statistics and the gain update. -/

namespace Sys2Proof.Machine

/-- One triple of zone `z` from a tile whose primary camera is `p` (R108): the primary's luma goes to the
first sum when the primary is camera z, to the second when it is camera (z + 1) mod 4. -/
def Zone.add (z p : Fin 4) (pri sec : Nat) (r : Zone) : Zone :=
  if p = z then ⟨r.first + pri, r.second + sec, r.count + 1⟩
  else ⟨r.first + sec, r.second + pri, r.count + 1⟩

/-- All triples of a tile (R108). -/
def addTriples (z p : Fin 4) (triples : List (Nat × Nat)) (zs : Vector Zone 4) : Vector Zone 4 :=
  zs.set z (triples.foldl (fun r t => Zone.add z p t.1 t.2 r) zs[z])

/-- The sum of camera `c` in zone `z` (6.1): the first when c is z. -/
def zoneSum (c z : Fin 4) (r : Zone) : Nat := if c = z then r.first else r.second

/-- Zone `z` is valid for camera `c` (R110). -/
def zoneValid (c z : Fin 4) (r : Zone) : Bool := decide (4096 ≤ r.count ∧ 0 < zoneSum c z r)

/-- The zone ratio of camera `c` (R111). -/
def zoneRatio (c z : Fin 4) (r : Zone) (gain : Nat) : Nat :=
  (gain * (r.first + r.second) + zoneSum c z r) / (2 * zoneSum c z r)

/-- The ratios of camera `c` over its valid zones; its zones are c and (c + 3) mod 4 (Table 6-2). -/
def ratiosOf (c : Fin 4) (zs : Vector Zone 4) (gain : Nat) : List Nat :=
  [c, c + 3].filterMap fun z => if zoneValid c z zs[z] then some (zoneRatio c z zs[z] gain) else none

/-- The target of R112: one ratio, or the mean of two rounded half up. -/
def targetOf : List Nat → Option Nat
  | [] => none
  | [q] => some q
  | q :: q' :: _ => some ((q + q' + 1) / 2)

/-- The new gain of R112: one eighth of the way, truncated toward zero, clamped to 128–512. -/
def dampedGain (gain target : Nat) : Nat :=
  (clampInt 128 512 (gain + Int.tdiv ((target : Int) - gain) 8)).toNat

/-- Camera `c`'s staged gain after an update: the new gain, or what stands when it has no valid zone
(R112). -/
def updatedGain (c : Fin 4) (zs : Vector Zone 4) (active staged : Vector Nat 4) : Nat :=
  match targetOf (ratiosOf c zs active[c]) with
  | none => staged[c]
  | some t => dampedGain active[c] t

/-- The gain update at frame complete: in AUTO of the active set it writes staged gains and nothing else
(R109, R112). -/
def gainUpdate (s : State) : State :=
  match s.active.mode with
  | .manual => s
  | .auto =>
    s.setStaged { s.staged with
      gains := Vector.ofFn fun c => updatedGain c s.zones s.active.gains s.staged.gains }

end Sys2Proof.Machine
end

