-- ==== Sys2Proof/Machine/Geometry.lean ====
section
/-! DEFINITION. Canvas geometry and the arithmetic of one pixel (Section 1): tiles and control points,
bank pair, height and mesh interpolation, sampling, gain and blend; and the bank records they read
(R22, Table 11-9). -/

namespace Sys2Proof.Machine

/-! ### Tiles (R1) -/

def tileCol (t : Nat) : Nat := t % 16
def tileRow (t : Nat) : Nat := t / 16

/-- The tile that holds canvas pixel (x, y) (R1). -/
def tileOf (x y : Nat) : Nat := (y / 32) * 16 + x / 32

/-- The byte of component `m` of canvas pixel (x, y) in an output slot or the body plane (R115). -/
def canvasByte (x y m : Nat) : Nat := 3072 * tileOf x y + 3 * (32 * (y % 32) + x % 32) + m

/-! ### Bank records (R22, R158, Table 11-9) -/

/-- The two cameras of zone `z` are `z` and `(z + 1) mod 4` (Table 0-5). -/
def zonePair (p s z : Fin 4) : Bool := decide ((p = z ∧ s = z + 1) ∨ (p = z + 1 ∧ s = z))

/-- A tile record of four bytes, if it is well formed (R22, R34, R158). -/
def tileRecordOf (bs : List Byte) : Option TileRecord :=
  let kind := u8At bs 0
  let p := u8At bs 1
  let s := u8At bs 2
  let z := u8At bs 3
  if kind = 0 then some .void
  else if kind = 1 then (if p ≤ 3 then some (.single (Fin.ofNat 4 p)) else none)
  else if kind = 2 then
    (if p ≤ 3 ∧ s ≤ 3 ∧ z ≤ 3 ∧ zonePair (Fin.ofNat 4 p) (Fin.ofNat 4 s) (Fin.ofNat 4 z) = true then
      some (.blend (Fin.ofNat 4 p) (Fin.ofNat 4 s) (Fin.ofNat 4 z)) else none)
  else if kind = 3 then some .body
  else none

/-- A stored control point: NONE when u is 65535, else (u, v) (R7, R22). -/
def pointAt (bs : List Byte) (i : Nat) : Option (Nat × Nat) :=
  if u16At bs i = 65535 then none else some (u16At bs i, u16At bs (i + 2))

/-- The point range check on one record (R33). -/
def pointInRange (bs : List Byte) (i : Nat) : Bool :=
  match pointAt bs i with
  | none => true
  | some (u, v) => decide (u ≤ 20464 ∧ v ≤ 15344)

/-- The cameras a tile needs (R87). -/
def TileRecord.needs : TileRecord → List (Fin 4)
  | .void => []
  | .single p => [p]
  | .blend p s _ => if p ≤ s then [p, s] else [s, p]
  | .body => []

/-! ### Bank pair and fraction (R4) -/

/-- The last case of R4: the entry i with kᵢ ≤ h < kᵢ₊₁; past the last key, the last bank. -/
def pairFrom (h : Int) : TableEntry → List TableEntry → BankPair
  | e, [] => ⟨e.bank, e.bank, 0⟩
  | e, e' :: es =>
    if h < e'.key then ⟨e.bank, e'.bank, ((h - e.key) * 256 / (e'.key - e.key)).toNat⟩
    else pairFrom h e' es

/-- The bank pair and f of a height table (R4); a table has at least one entry (R36). -/
def pairOf (h : Int) : List TableEntry → Option BankPair
  | [] => none
  | e :: es => if h ≤ e.key then some ⟨e.bank, e.bank, 0⟩ else some (pairFrom h e es)

/-- The pair and f of a parameter set; absent with no table (R4; DEDUCED, log 14). -/
def Params.pair (p : Params) : Option BankPair := p.table.bind (pairOf p.height)

/-! ### Height interpolation (R6 to R8) -/

/-- lo + floor((d × f + 128) / 256), rounded toward minus infinity (R6, R8). -/
def heightInterp (lo hi f : Nat) : Nat := ((lo : Int) + (((hi : Int) - lo) * f + 128) / 256).toNat

/-- A height-interpolated control point; NONE when either bank's is (R6, R7). -/
def pointInterp (lo hi : Option (Nat × Nat)) (f : Nat) : Option (Nat × Nat) :=
  match lo, hi with
  | some (u, v), some (u', v') => some (heightInterp u u' f, heightInterp v v' f)
  | _, _ => none

/-! ### Mesh interpolation (R3, R9, R10) -/

/-- The corner weights 00, 10, 01, 11 at offsets (a, b) of a cell, applied to four corner values and
rounded half up (R3, R9). -/
def cellMix (a b c00 c10 c01 c11 : Nat) : Nat :=
  (c00 * ((8 - a) * (8 - b)) + c10 * (a * (8 - b)) + c01 * ((8 - a) * b) + c11 * (a * b) + 32) / 64

/-- Corner 00 of the cell of local pixel (x, y) among a tile's 5 × 5 points. -/
def cornerIndex (x y : Nat) : Nat := (y / 8) * 5 + x / 8

/-- The source position of local pixel (x, y) of a tile, from the tile's 25 height-interpolated points;
none when any of the four corners is NONE (R9). -/
def sourcePos (pts : List (Option (Nat × Nat))) (x y : Nat) : Option (Nat × Nat) :=
  let k := cornerIndex x y
  match pts.getD k none, pts.getD (k + 1) none, pts.getD (k + 5) none, pts.getD (k + 6) none with
  | some p00, some p10, some p01, some p11 =>
    some (cellMix (x % 8) (y % 8) p00.1 p10.1 p01.1 p11.1, cellMix (x % 8) (y % 8) p00.2 p10.2 p01.2 p11.2)
  | _, _, _, _ => none

/-- The pixel weight of local pixel (x, y) from the tile's 25 height-interpolated weights (R10). -/
def pixelWeight (ws : List Nat) (x y : Nat) : Nat :=
  let k := cornerIndex x y
  cellMix (x % 8) (y % 8) (ws.getD k 0) (ws.getD (k + 1) 0) (ws.getD (k + 5) 0) (ws.getD (k + 6) 0)

/-! ### Sampling (R12, R13) -/

/-- The weighted mean of four source values with fractions s and t (R13). -/
def sampleMix (s t p00 p10 p01 p11 : Nat) : Nat :=
  (p00 * ((16 - s) * (16 - t)) + p10 * (s * (16 - t)) + p01 * ((16 - s) * t) + p11 * (s * t) + 128) / 256

/-- R13 on all three components. -/
def samplePixel (s t : Nat) (p00 p10 p01 p11 : Pixel) : Pixel :=
  ⟨byteOf (sampleMix s t p00.y.toNat p10.y.toNat p01.y.toNat p11.y.toNat),
   byteOf (sampleMix s t p00.cb.toNat p10.cb.toNat p01.cb.toNat p11.cb.toNat),
   byteOf (sampleMix s t p00.cr.toNat p10.cr.toNat p01.cr.toNat p11.cr.toNat)⟩

/-- A column or row number clamped to the frame (R12). -/
def clampTo (size n : Nat) : Nat := min n (size - 1)

/-! ### Gain and blend (R14, R16) -/

/-- Luma gain with saturation at 255 (R14). -/
def gainLuma (y gain : Nat) : Nat := min 255 ((y * gain + 128) / 256)

/-- The post-gain pixel (R14). -/
def postGain (gain : Nat) (p : Pixel) : Pixel := { p with y := byteOf (gainLuma p.y.toNat gain) }

/-- One blended component (R16). -/
def blendMix (w pri sec : Nat) : Nat := (pri * (256 - w) + sec * w + 128) / 256

/-- A blended pixel (R16). -/
def blendPixel (w : Nat) (pri sec : Pixel) : Pixel :=
  ⟨byteOf (blendMix w pri.y.toNat sec.y.toNat), byteOf (blendMix w pri.cb.toNat sec.cb.toNat),
   byteOf (blendMix w pri.cr.toNat sec.cr.toNat)⟩

/-! ### The work of a tile (R95) -/

/-- The banks that FETCH reads: both of the pair, or the one (R95). -/
def BankPair.banks (p : BankPair) : List (Fin 8) := if p.low = p.high then [p.low] else [p.low, p.high]

/-- The tile's five point rows in a section of records of `size` bytes (R2, R95). -/
def pointRows (b : Fin 8) (sec size t : Nat) : List Run :=
  (List.range 5).map fun j =>
    ⟨bankAddr b + sectionOffset sec + size * ((4 * tileRow t + j) * 65 + 4 * tileCol t), 5 * size⟩

/-- The mesh rows of one camera, from the low bank and then from the high bank. -/
def meshRuns (p : BankPair) (c : Fin 4) (t : Nat) : List Run :=
  p.banks.flatMap fun b => pointRows b c.val 4 t

/-- The runs that FETCH reads (R95, Table 5-4). -/
def Tile.fetchRuns (t : Tile) : List Run :=
  match t.treatment with
  | .held k => [⟨outAddr k + tileBytes * t.index, tileBytes⟩]
  | .filled => []
  | .fresh =>
    match t.record with
    | .void => []
    | .body => [⟨bodyBase + tileBytes * t.index, tileBytes⟩]
    | .single _ => t.views.flatMap fun v => meshRuns t.pair v.cam t.index
    | .blend _ _ _ =>
      (t.views.flatMap fun v => meshRuns t.pair v.cam t.index) ++
        t.pair.banks.flatMap fun b => pointRows b 4 1 t.index

/-- Bytes of mesh that FETCH reads for one camera. -/
def BankPair.meshBytes (p : BankPair) : Nat := 100 * p.banks.length

/-- The 25 height-interpolated points of the tile's `i`-th view, from the bytes FETCH read (R6, R7). -/
def Tile.points (t : Tile) (fetched : List Byte) (i : Nat) : List (Option (Nat × Nat)) :=
  let lo := slice fetched (i * t.pair.meshBytes) 100
  let hi := if t.pair.low = t.pair.high then lo else slice fetched (i * t.pair.meshBytes + 100) 100
  (List.range 25).map fun k => pointInterp (pointAt lo (4 * k)) (pointAt hi (4 * k)) t.pair.f

/-- The 25 height-interpolated weights of a BLEND tile (R8). -/
def Tile.weights (t : Tile) (fetched : List Byte) : List Nat :=
  let base := t.views.length * t.pair.meshBytes
  let lo := slice fetched base 25
  let hi := if t.pair.low = t.pair.high then lo else slice fetched (base + 25) 25
  (List.range 25).map fun k => heightInterp (u8At lo k) (u8At hi k) t.pair.f

/-- The columns read in one source row (R95). -/
structure Span where
  row : Nat
  lo : Nat
  hi : Nat
  deriving DecidableEq, Repr

/-- Add columns `lo` to `hi` of a row, keeping rows ascending. -/
def addSpan (row lo hi : Nat) : List Span → List Span
  | [] => [⟨row, lo, hi⟩]
  | sp :: rest =>
    if row < sp.row then ⟨row, lo, hi⟩ :: sp :: rest
    else if row = sp.row then ⟨row, min lo sp.lo, max hi sp.hi⟩ :: rest
    else sp :: addSpan row lo hi rest

/-- The rows and columns that the clamped reads of one pixel touch (R12). -/
def touch (a : Answer) (pos : Option (Nat × Nat)) (spans : List Span) : List Span :=
  match pos with
  | none => spans
  | some (u, v) =>
    let lo := clampTo a.width (u / 16)
    let hi := clampTo a.width (u / 16 + 1)
    addSpan (clampTo a.height (v / 16 + 1)) lo hi (addSpan (clampTo a.height (v / 16)) lo hi spans)

/-- The 1,024 local pixels of a tile, in rows of 32 (R115). -/
def localPixels : List (Nat × Nat) := (List.range 1024).map fun k => (k % 32, k / 32)

/-- Each source row that the tile's clamped reads touch, in ascending row order (R95). -/
def spansOf (pts : List (Option (Nat × Nat))) (a : Answer) : List Span :=
  localPixels.foldl (fun spans xy => touch a (sourcePos pts xy.1 xy.2) spans) []

/-- Bytes of a span. -/
def Span.bytes (sp : Span) : Nat := 3 * (sp.hi - sp.lo + 1)

/-- The DRAM run of a span of a view (R95): row q at byte 3,840 × q, column p at 3 × p. -/
def Span.run (v : View) (sp : Span) : Run :=
  ⟨ringAddr v.cam v.answer.slot + 3840 * sp.row + 3 * sp.lo, sp.bytes⟩

/-- The source runs of the tile's `i`-th view. -/
def Tile.viewSpans (t : Tile) (fetched : List Byte) (i : Nat) (v : View) : List Span :=
  spansOf (t.points fetched i) v.answer

/-- The tile is computed from cameras: FRESH and SINGLE or BLEND (R15 to R17). -/
def Tile.fromCameras (t : Tile) : Bool :=
  match t.treatment, t.record with
  | .fresh, .single _ => true
  | .fresh, .blend _ _ _ => true
  | _, _ => false

/-- The runs that SAMPLE reads, for each view in camera order (R95). -/
def Tile.sampleRuns (t : Tile) (fetched : List Byte) : List Run :=
  if t.fromCameras then
    t.views.zipIdx.flatMap fun vi => (t.viewSpans fetched vi.2 vi.1).map (Span.run vi.1)
  else []

/-- The pixel at (row, col) among the source bytes of a view's spans. -/
def sourcePixel : List Span → List Byte → Nat → Nat → Pixel
  | [], _, _, _ => ⟨0#8, 0#8, 0#8⟩
  | sp :: rest, bs, row, col =>
    if sp.row = row then pixelAt bs (3 * (col - sp.lo)) else sourcePixel rest (bs.drop sp.bytes) row col

/-- A view ready for sampling: its points, spans and source bytes. -/
structure ViewData where
  view : View
  pts : List (Option (Nat × Nat))
  spans : List Span
  bytes : List Byte
  deriving DecidableEq, Repr

/-- The tile's views with their source bytes, which SAMPLE read one view after another. -/
def Tile.viewData (t : Tile) (fetched : List Byte) : List (View × Nat) → List Byte → List ViewData
  | [], _ => []
  | (v, i) :: rest, bs =>
    let spans := t.viewSpans fetched i v
    ⟨v, t.points fetched i, spans, bs⟩ ::
      t.viewData fetched rest (bs.drop ((spans.map Span.bytes).sum))

/-- The post-gain pixel of one camera at local pixel (x, y); none where it has no view (R9, R12 to R14). -/
def ViewData.pixel (d : ViewData) (gains : Vector Nat 4) (x y : Nat) : Option Pixel :=
  match sourcePos d.pts x y with
  | none => none
  | some (u, v) =>
    let a := d.view.answer
    let c0 := clampTo a.width (u / 16)
    let c1 := clampTo a.width (u / 16 + 1)
    let r0 := clampTo a.height (v / 16)
    let r1 := clampTo a.height (v / 16 + 1)
    let px := fun r c => sourcePixel d.spans d.bytes r c
    some (postGain gains[d.view.cam] (samplePixel (u % 16) (v % 16) (px r0 c0) (px r0 c1) (px r1 c0) (px r1 c1)))

/-- The pixel of camera `c`, none when `c` is unavailable or has no view. -/
def cameraPixel (ds : List ViewData) (gains : Vector Nat 4) (c : Fin 4) (x y : Nat) : Option Pixel :=
  match ds.find? (fun d => decide (d.view.cam = c)) with
  | none => none
  | some d => d.pixel gains x y

/-- A pixel of a FRESH tile with what it hands the balance unit: the primary's and the secondary's
post-gain luma where the pixel is blended (R15 to R17, R20). -/
structure PixelOutcome where
  pixel : Pixel
  lumas : Option (Nat × Nat)
  deriving DecidableEq, Repr

/-- A pixel of a FRESH SINGLE tile (R15). -/
def singlePixel (void : Pixel) (p : Option Pixel) : PixelOutcome := ⟨p.getD void, none⟩

/-- A pixel of a FRESH BLEND tile (R16, R17). -/
def blendOutcome (void : Pixel) (w : Nat) (pri sec : Option Pixel) : PixelOutcome :=
  match pri, sec with
  | some p, some s => ⟨blendPixel w p s, some (p.y.toNat, s.y.toNat)⟩
  | some p, none => ⟨p, none⟩
  | none, some s => ⟨s, none⟩
  | none, none => ⟨void, none⟩

/-- The 1,024 pixels of a tile computed from cameras, in the order of R115. -/
def Tile.compute (t : Tile) (active : Params) (fetched got : List Byte) : List PixelOutcome :=
  let ds := t.viewData fetched t.views.zipIdx got
  match t.record with
  | .single p =>
    localPixels.map fun xy => singlePixel active.void (cameraPixel ds active.gains p xy.1 xy.2)
  | .blend p s _ =>
    let ws := t.weights fetched
    localPixels.map fun xy =>
      blendOutcome active.void (pixelWeight ws xy.1 xy.2) (cameraPixel ds active.gains p xy.1 xy.2)
        (cameraPixel ds active.gains s xy.1 xy.2)
  | .void => []
  | .body => []

/-- One colour in every pixel of a tile (R18, R19). -/
def solidTile (p : Pixel) : List Byte := (List.replicate 1024 p).flatMap Pixel.bytes

/-- The bytes of a tile that has no SAMPLE work: the copied bytes, or the void or fill colour (R18, R19). -/
def Tile.copied (t : Tile) (active : Params) (fetched : List Byte) : List Byte :=
  match t.treatment with
  | .held _ => fetched
  | .filled => solidTile active.fill
  | .fresh => match t.record with
    | .void => solidTile active.void
    | .body => fetched
    | .single _ => fetched
    | .blend _ _ _ => fetched

end Sys2Proof.Machine
end

