-- ==== Sys2Proof/Machine/Arbiter.lean ====
section
/-! DEFINITION. The requesters' offers and the grant order of the memory arbiter (Section 8). A write burst
carries its bytes from the grant on; it reaches the DRAM, and a read burst takes its bytes, when the burst
completes (log 9). -/

namespace Sys2Proof.Machine

/-! ### Request jobs and verification (R26, R27, R29, R31, R125) -/

/-- The run of DRAM bytes that a job moves. -/
def JobWork.run : JobWork → Run
  | .bankFill b => ⟨bankAddr b, bankSize⟩
  | .bankWrite b sec off data => ⟨bankAddr b + sectionOffset sec.val + off, data.length⟩
  | .bankRead b sec off len => ⟨bankAddr b + sectionOffset sec.val + off, len⟩
  | .bodyWrite t off data => ⟨bodyBase + tileBytes * t.val + off, data.length⟩

/-- The bytes that a job writes at `i` to `i + n - 1` of its run; none for a read. -/
def JobWork.writes (w : JobWork) (i n : Nat) : Option (List Byte) :=
  match w with
  | .bankFill _ => some ((List.range n).map fun k => bankFillByte (i + k))
  | .bankWrite _ _ _ data => some (slice data i n)
  | .bankRead _ _ _ _ => none
  | .bodyWrite _ _ data => some (slice data i n)

/-- The next burst of the executing request's job, if any is left. -/
def jobOffer (s : State) : Option Burst :=
  match s.slot with
  | none => none
  | some j =>
    let n := min 256 (j.work.run.len - j.moved)
    if j.moved < j.work.run.len then some ⟨.job, j.work.run.addr + j.moved, n, j.work.writes j.moved n, true⟩
    else none

/-- The next burst of the verify engine's read, if any is left. -/
def verifyOffer (s : State) : Option Burst :=
  match s.banks.engine with
  | none => none
  | some e =>
    if e.bytes.length < bankSize then
      some ⟨.verify, bankAddr e.bank + e.bytes.length, min 256 (bankSize - e.bytes.length), none, true⟩
    else none

/-- The AUX offer: the one source that has a burst, or the one not served last (R131). -/
def auxOffer (s : State) : Option (Burst × AuxSource) :=
  match jobOffer s, verifyOffer s with
  | none, none => none
  | some j, none => some (j, .job)
  | none, some v => some (v, .verify)
  | some j, some v => match s.arb.auxLast with
    | .job => some (v, .verify)
    | .verify => some (j, .job)

/-! ### Composer (R130) -/

/-- A kept tile-map run. -/
def Composer.mapRun (c : Composer) (m : Nat) : Option MapRun := c.mapRuns.find? fun r => decide (r.run = m)

/-- The tile-map run to read next: the run of the tile at the tile index when it is not kept, then the
run after it while one remains; read in ISSUING and WAITING (R130). -/
def Composer.wantedRun (c : Composer) : Option Nat :=
  if c.state = .issuing ∨ c.state = .waiting then
    let m := c.index / 64
    if 6 ≤ m then none
    else if (c.mapRun m).isNone then some m
    else if m + 1 < 6 ∧ (c.mapRun (m + 1)).isNone then some (m + 1)
    else none
  else none

/-- STORE's next burst (R95). -/
def storeOffer (c : Composer) : Option Burst :=
  match c.store with
  | none => none
  | some st =>
    if st.written < tileBytes then
      some ⟨.store, outAddr st.tile.slot + tileBytes * st.tile.index + st.written,
        min 256 (tileBytes - st.written), some (slice st.pixels st.written 256), true⟩
    else none

/-- SAMPLE's next burst. -/
def sampleOffer (c : Composer) : Option Burst :=
  match c.sample with
  | some ⟨_, _, r :: _, _, _⟩ => some ⟨.sample, r.addr, r.len, none, true⟩
  | _ => none

/-- FETCH's next burst. -/
def fetchOffer (c : Composer) : Option Burst :=
  match c.fetch with
  | some ⟨_, r :: _, _⟩ => some ⟨.fetch, r.addr, r.len, none, true⟩
  | _ => none

/-- The tile-map burst: a run of 64 records of the low bank's section 5. -/
def mapOffer (s : State) : Option Burst :=
  match s.comp.wantedRun, s.active.pair with
  | some m, some p => some ⟨.tileMap m, bankAddr p.low + sectionOffset 5 + 256 * m, 256, none, true⟩
  | _, _ => none

/-- The composer's one offer, the later stage first, tile-map reads last; nothing in IDLE (R130). -/
def compOffer (s : State) : Option Burst :=
  if s.comp.state = .idle then none
  else (storeOffer s.comp).or ((sampleOffer s.comp).or ((fetchOffer s.comp).or (mapOffer s)))

/-! ### Cameras and display (R56, R120) -/

/-- A camera requester's next burst: of the oldest pending line, from its first byte not yet written. -/
def camOffer (s : State) (c : Fin 4) : Option Burst :=
  match s.cams[c].fifo with
  | [] => none
  | l :: _ =>
    let n := min 256 (l.data.length - l.written)
    some ⟨.camera c, ringAddr c l.slot + 3840 * l.row + l.written, n, some (slice l.data l.written n), true⟩

/-- The first camera after the last one granted that offers a burst (R132). -/
def camerasOffer (s : State) : Option (Burst × Fin 4) :=
  let k := s.arb.lastCam
  ([k + 1, k + 2, k + 3, k + 4].filterMap fun c => (camOffer s c).map fun b => (b, c)).head?

/-- Bytes of a display line (Table 8-3). -/
def lineBytes : Nat := 1536

/-- SCAN's next burst: 96 bytes of one tile column of the line being fetched (R115, R120). -/
def scanOffer (o : Output) : Option Burst :=
  match o.source, o.places.find? (fun p => !p.dropped && decide (p.got.length < lineBytes)) with
  | some k, some p =>
    some ⟨.scan p.line, outAddr k + canvasByte (32 * (p.got.length / 96)) p.line 0, 96, none, true⟩
  | _, _ => none

/-! ### The grant (R132) -/

/-- Hand the port to a burst. -/
def State.onPort (s : State) (b : Burst) : State := s.setArb { s.arb with port := some b }

/-- The one grant among the offers that stand: SCAN, cameras round robin, COMP, AUX (R132). -/
def grant (s : State) : State :=
  match scanOffer s.out with
  | some b => s.onPort b
  | none =>
    match camerasOffer s with
    | some (b, c) => s.setArb { s.arb with port := some b, lastCam := c }
    | none =>
      match compOffer s with
      | some b => s.onPort b
      | none =>
        match auxOffer s with
        | some (b, src) => s.setArb { s.arb with port := some b, auxLast := src }
        | none => s

/-- The arbiter makes a grant whenever the port is free and an offer stands (R132), and none from a pin
reset until the memory start is complete (R128). -/
def arbitrate (s : State) : State :=
  if s.arb.port.isSome ∨ s.starting = true ∨ s.resetAsserted = true then s else grant s

/-- The work of the burst on the port has been ended: it completes, and its data is discarded (R129). -/
def Arbiter.unwant (a : Arbiter) : Arbiter :=
  match a.port with
  | some b => { a with port := some { b with wanted := false } }
  | none => a

/-- The same, when the burst is one of the clients that `p` tells. -/
def Arbiter.unwantIf (a : Arbiter) (p : Client → Bool) : Arbiter :=
  match a.port with
  | some b => if p b.client then a.unwant else a
  | none => a

end Sys2Proof.Machine
end

