-- ==== Sys2Proof/Machine/Camera.lean ====
section
/-! DEFINITION. Camera ports and frame rings (Section 3): the port's own operations, the three requests
that name a camera, and the camera's four events. -/

namespace Sys2Proof.Machine

/-! ### Slots -/

/-- Every FILLING and READY slot becomes EMPTY; an IN_USE slot stays (R45, R46). -/
def RingSlot.cleared : RingSlot → RingSlot
  | .inUse n a b l => .inUse n a b l
  | _ => .empty

/-- The slot is IN_USE. -/
def RingSlot.isInUse : RingSlot → Bool
  | .inUse _ _ _ _ => true
  | _ => false

/-- The slot is FILLING. -/
def RingSlot.isFilling : RingSlot → Bool
  | .filling _ _ _ => true
  | _ => false

/-- The end time of a READY slot. -/
def RingSlot.readyEnd? : RingSlot → Option Word
  | .ready _ _ b _ _ => some b
  | _ => none

/-- The number of the FILLING slot; at most one exists (R60). -/
def Camera.fillingSlot (c : Camera) : Option (Fin 4) := cams4.find? fun k => c.slots[k].isFilling

/-- Age of a slot's frame: now minus its end time, modulo 2³² (R54, R61). -/
def ageOf (now finish : Word) : Word := now - finish

/-- The READY slots with their ages, in slot order. -/
def Camera.readyAges (c : Camera) (now : Word) : List (Fin 4 × Word) :=
  cams4.filterMap fun k => c.slots[k].readyEnd?.map fun e => (k, ageOf now e)

/-- The oldest READY slot: the largest age, of equal ages the lower number (R54). -/
def Camera.oldestReady (c : Camera) (now : Word) : Option (Fin 4) :=
  ((c.readyAges now).foldl (fun best x => match best with
    | none => some x
    | some b => if b.2 < x.2 then some x else some b) none).map (·.1)

/-- The newest READY slot: the smallest age, of equal ages the higher number (R61). -/
def Camera.newestReady (c : Camera) (now : Word) : Option (Fin 4 × Word) :=
  (c.readyAges now).foldl (fun best x => match best with
    | none => some x
    | some b => if x.2 ≤ b.2 then some x else some b) none

/-- The slot for a new frame: the lowest-numbered EMPTY one, else the oldest READY one (R54). -/
def Camera.chooseSlot (c : Camera) (now : Word) : Option (Fin 4) :=
  match cams4.find? fun k => decide (c.slots[k] = .empty) with
  | some k => some k
  | none => c.oldestReady now

/-! ### Damage and the good count (R49, R58) -/

/-- Recording a damaged frame: count, class, good count, slot (R58). -/
def Camera.recordDamage (c : Camera) (k : Fin 4) (d : DamageClass) : Camera :=
  { c with damage := c.damage + 1#16, lastDamage := some d, good := 0, slots := c.slots.set k .empty }

/-- One more undamaged frame, saturating at 255; ACQUIRING becomes LIVE at the acquire count (R49). -/
def Camera.addGood (c : Camera) : Camera :=
  let g := min 255 (c.good + 1)
  { c with good := g, state := if c.state = .acquiring ∧ c.setup.acquire ≤ g then .live else c.state }

/-! ### Events of the port -/

/-- R50: a frame start at a LOST camera. -/
def Camera.reacquire (c : Camera) : Camera :=
  if c.state = .lost then { c with state := .acquiring, good := 0 } else c

/-- Step 1 of R53: a FILLING frame is closed as damaged, INTERRUPTED unless it carries a mark. -/
def Camera.interrupt (c : Camera) : Camera :=
  match c.fillingSlot with
  | none => c
  | some k => c.recordDamage k (c.mark.getD .interrupted)

/-- R54: an evicted frame that was never selected adds 1 to the skipped count. -/
def evictedUnused : RingSlot → Bool
  | .ready _ _ _ _ used => !used
  | _ => false

/-- Steps 2 to 4 of R53: the chosen slot becomes FILLING with its number, the mark is cleared, and the loss
timer restarts from its full length. -/
def Camera.openFrame (c : Camera) (now : Word) : Camera :=
  match c.chooseSlot now with
  | none => c
  | some k =>
    { c with
      skipped := if evictedUnused c.slots[k] then c.skipped + 1#16 else c.skipped
      slots := c.slots.set k (.filling c.frameCounter now 0)
      frameCounter := c.frameCounter + 1#16
      mark := none
      loss := some (1000 * c.setup.lossMs) }

/-- A frame start at a camera that is not OFF (R50, R53). -/
def Camera.frameStart (c : Camera) (now : Word) : Camera := (c.reacquire.interrupt).openFrame now

/-- A 4:2:2 pair as two pixels that share its chroma (R52). -/
def convertPair (cb y0 cr y1 : Byte) : List Byte := [y0, cb, cr, y1, cb, cr]

/-- A line converted from 4:2:2 to 4:4:4 (R52). -/
def convertLine : List Byte → List Byte
  | cb :: y0 :: cr :: y1 :: rest => convertPair cb y0 cr y1 ++ convertLine rest
  | _ => []

/-- A line's pixel count, before conversion: two bytes per pixel (R52, log 7). -/
def pixelCount (bytes : List Byte) : Nat := bytes.length / 2

/-- The lines received of the frame in a FILLING slot, advanced by one (R55). -/
def RingSlot.addLine : RingSlot → RingSlot
  | .filling n a l => .filling n a (l + 1)
  | x => x

/-- A line at a camera that is not OFF (R55). -/
def Camera.takeLine (c : Camera) (bytes : List Byte) : Camera :=
  match c.fillingSlot with
  | none => c
  | some k =>
    match c.mark, c.slots[k] with
    | none, .filling _ _ lines =>
      if lines = c.setup.height then { c with mark := some .lineCount }
      else if pixelCount bytes ≠ c.setup.width then { c with mark := some .lineLength }
      else if 2 ≤ c.fifo.length then { c with mark := some .overrun }
      else
        { c with
          fifo := c.fifo ++ [⟨k, lines, convertLine bytes, 0⟩]
          slots := c.slots.set k c.slots[k].addLine }
    | _, _ => c

/-- The mark of a frame at its frame end: LINE_COUNT when its lines differ from the height (R57). -/
def Camera.endMark (c : Camera) (lines : Nat) : Option DamageClass :=
  match c.mark with
  | some d => some d
  | none => if lines = c.setup.height then none else some .lineCount

/-- A frame end at a camera that is not OFF (R57). The mark belonged to the frame that ends. -/
def Camera.endFrame (c : Camera) (now : Word) : Camera :=
  match c.fillingSlot with
  | none => c
  | some k =>
    match c.slots[k] with
    | .filling n a lines =>
      match c.endMark lines with
      | some d => { c.recordDamage k d with mark := none }
      | none => Camera.addGood { c with slots := c.slots.set k (.ready n a now lines false) }
    | _ => c

/-- The loss timer of an ACQUIRING or LIVE camera has run down to 0 and its expiry is not taken yet. A frame start
or a CAM_ON taken before the expiry restarts the timer, and a CAM_OFF stops it, so that none is left (R47, R48). -/
def Camera.expired (c : Camera) : Bool :=
  decide (c.loss = some 0) && (decide (c.state = .acquiring) || decide (c.state = .live))

/-- Expiry of the loss timer of an ACQUIRING or LIVE camera (R48). -/
def Camera.expire (c : Camera) : Camera := { c with state := .lost, loss := none }

/-- R45: an OFF camera is switched on. -/
def Camera.switchOn (c : Camera) : Camera :=
  { c with
    state := .acquiring
    slots := c.slots.map RingSlot.cleared
    good := 0
    frameCounter := 0#16
    mark := none
    loss := some (1000 * c.setup.lossMs) }

/-- R46: a camera is switched off; an IN_USE slot gets the discard mark. -/
def Camera.switchOff (c : Camera) : Camera :=
  { c with
    state := .off
    loss := none
    discard := c.discard || c.slots.toList.any RingSlot.isInUse
    slots := c.slots.map RingSlot.cleared
    good := 0
    mark := none }

/-! ### Selection and release (R61 to R63) -/

/-- R62: the candidate becomes IN_USE with its used flag set. -/
def RingSlot.select : RingSlot → RingSlot
  | .ready n a b l _ => .inUse n a b l
  | x => x

/-- The frame number of a slot that holds a frame. -/
def RingSlot.frame : RingSlot → Half
  | .empty => 0#16
  | .filling n _ _ => n
  | .ready n _ _ _ _ => n
  | .inUse n _ _ _ => n

/-- The first test of Table 3-7 that holds, with the active set `p`; none when camera `i` is available. A
LIVE camera always has a READY slot (R61); were there none, the answer would be STALE (log 10). -/
def Camera.whyNot (c : Camera) (i : Fin 4) (p : Params) (now : Word) : Option Reason :=
  match c.state with
  | .off => some .off
  | .acquiring => some .acquiring
  | .lost => some .lost
  | .live =>
    if p.exclude.getLsbD i.val then some .excluded
    else if (i = 3 ∧ p.leftOpen = true) ∨ (i = 2 ∧ p.rightOpen = true) then some .obstructed
    else match c.newestReady now with
      | none => some .stale
      | some ka => if c.setup.staleMs * 1000 < ka.2.toNat then some .stale else none

/-- The answer of a selection (R61, R62). -/
def Camera.answer (c : Camera) (i : Fin 4) (p : Params) (now : Word) : Selection :=
  match c.whyNot i p now, c.newestReady now with
  | some r, _ => .unavailable r
  | none, some (k, age) => .available ⟨k, c.slots[k].frame, age, c.setup.width, c.setup.height⟩
  | none, none => .unavailable .stale

/-- What a selection does to the port: the candidate becomes IN_USE when the camera is available; an
unavailable selection changes no slot (R61, R62). -/
def Camera.selected (c : Camera) (i : Fin 4) (p : Params) (now : Word) : Camera :=
  match c.answer i p now with
  | .available a => { c with slots := c.slots.set a.slot c.slots[a.slot].select }
  | _ => c

/-- R63: IN_USE becomes READY with its used flag set, or EMPTY. -/
def RingSlot.release (drop : Bool) : RingSlot → RingSlot
  | .inUse n a b l => if drop then .empty else .ready n a b l true
  | x => x

/-- R63: the release at a composition's end. -/
def Camera.release (c : Camera) : Camera :=
  { c with slots := c.slots.map (RingSlot.release (decide (c.state = .off) || c.discard)), discard := false }

/-! ### Notices (R51) -/

/-- A CAMERA notice: camera, new state, timebase (Table 11-8). -/
def State.cameraNotice (s : State) (i : Fin 4) : State :=
  s.notice .camera ([byteOf i.val, s.cams[i].state.code] ++ le32 s.timer.timebase.toNat)

/-! ### CAM_SETUP, CAM_ON, CAM_OFF -/

/-- CAM_SETUP in the check order of R44. -/
def camSetupBody (tag : Byte) (p : List Byte) (s : State) : State :=
  if p.length ≠ 9 then s.replyStatus 0x10#8 tag .length
  else if 3 < u8At p 0 then s.replyStatus 0x10#8 tag .range
  else
    let i := Fin.ofNat 4 (u8At p 0)
    if s.cams[i].state ≠ .off then s.replyStatus 0x10#8 tag .state
    else if (setupOf p).inRange = false then s.replyStatus 0x10#8 tag .range
    else (s.setCam i { s.cams[i] with setup := setupOf p }).replyOk 0x10#8 tag []

/-- CAM_ON (R45). -/
def camOnBody (tag : Byte) (p : List Byte) (s : State) : State :=
  if p.length ≠ 1 then s.replyStatus 0x11#8 tag .length
  else if 3 < u8At p 0 then s.replyStatus 0x11#8 tag .range
  else
    let i := Fin.ofNat 4 (u8At p 0)
    if s.cams[i].state ≠ .off then s.replyStatus 0x11#8 tag .state
    else (s.setCam i s.cams[i].switchOn).replyOk 0x11#8 tag []

/-- CAM_OFF (R46); for a camera already OFF it is answered OK and changes nothing. -/
def camOffBody (tag : Byte) (p : List Byte) (s : State) : State :=
  if p.length ≠ 1 then s.replyStatus 0x12#8 tag .length
  else if 3 < u8At p 0 then s.replyStatus 0x12#8 tag .range
  else
    let i := Fin.ofNat 4 (u8At p 0)
    if s.cams[i].state = .off then s.replyOk 0x12#8 tag []
    else (s.setCam i s.cams[i].switchOff).replyOk 0x12#8 tag []

def execCamSetup (tag : Byte) (p : List Byte) (s : State) : Result :=
  .next (passGate 0x10#8 tag (camSetupBody tag p) s)

def execCamOn (tag : Byte) (p : List Byte) (s : State) : Result :=
  .next (passGate 0x11#8 tag (camOnBody tag p) s)

def execCamOff (tag : Byte) (p : List Byte) (s : State) : Result :=
  .next (passGate 0x12#8 tag (camOffBody tag p) s)

/-! ### Camera events -/

/-- No event is taken while the reset input is asserted (R139). -/
def State.unlessAsserted (s : State) (f : State → State) : State :=
  if s.resetAsserted then s else f s

/-- FRAME_START (R53): ignored by an OFF camera; from LOST with a CAMERA notice (R50). -/
def frameStartEvent (i : Fin 4) (s : State) : State :=
  let c := s.cams[i]
  match c.state with
  | .off => s
  | .lost => ((s.setCam i c.reacquire).cameraNotice i).setCam i (c.frameStart s.timer.timebase)
  | .acquiring => s.setCam i (c.frameStart s.timer.timebase)
  | .live => s.setCam i (c.frameStart s.timer.timebase)

def execFrameStart (i : Fin 4) (s : State) : Result := .next (s.unlessAsserted (frameStartEvent i))

/-- LINE (R55, R56): ignored by an OFF camera; an accepted line is offered to the arbiter. -/
def lineEvent (i : Fin 4) (bytes : List Byte) (s : State) : State :=
  if s.cams[i].state = .off then s else arbitrate (s.setCam i (s.cams[i].takeLine bytes))

def execLine (i : Fin 4) (bytes : List Byte) (s : State) : Result :=
  .next (s.unlessAsserted (lineEvent i bytes))

/-- FRAME_END (R57), with the CAMERA notice of a move to LIVE (R49). -/
def frameEndEvent (i : Fin 4) (s : State) : State :=
  let c := s.cams[i]
  if c.state = .off then s
  else
    let s' := s.setCam i (c.endFrame s.timer.timebase)
    if s'.cams[i].state ≠ c.state then s'.cameraNotice i else s'

def execFrameEnd (i : Fin 4) (s : State) : Result := .next (s.unlessAsserted (frameEndEvent i))

/-- LOSS_TIMER_EXPIRY (R48): of a camera whose timer has run down; it does not happen when a frame start taken
first has restarted the timer. -/
def lossTimerExpiryEvent (i : Fin 4) (s : State) : State :=
  if s.cams[i].expired then (s.setCam i s.cams[i].expire).cameraNotice i else s

def execLossTimerExpiry (i : Fin 4) (s : State) : Result := .next (s.unlessAsserted (lossTimerExpiryEvent i))

end Sys2Proof.Machine
end

