-- ==== Sys2Proof/Machine/Display.lean ====
section
/-! DEFINITION. The output controller and the display port (Section 7): slot rotation, the line buffer,
line times, underruns, and the pixel that leaves the port. -/

namespace Sys2Proof.Machine

/-! ### Output slots (R115 to R118) -/

def OutSlot.isFree : OutSlot → Bool
  | .free => true
  | _ => false

def OutSlot.isPublished : OutSlot → Bool
  | .published _ => true
  | _ => false

def OutSlot.isScanning : OutSlot → Bool
  | .scanning _ => true
  | _ => false

/-- The frame sequence number, absent in FREE (R115). -/
def OutSlot.seq? : OutSlot → Option Half
  | .free => none
  | .composing q => some q
  | .published q => some q
  | .scanning q => some q

/-- The three output slots in order. -/
def slots3 : List (Fin 3) := [0, 1, 2]

/-- The SCANNING slot, if any. -/
def Output.scanning (o : Output) : Option (Fin 3) := slots3.find? fun k => o.slots[k].isScanning

/-- The lowest-numbered FREE slot (R84). -/
def Output.lowestFree (o : Output) : Option (Fin 3) := slots3.find? fun k => o.slots[k].isFree

/-- Step 1 of R116 on one slot, when some slot is PUBLISHED. -/
def OutSlot.rotate : OutSlot → OutSlot
  | .published q => .scanning q
  | .scanning _ => .free
  | x => x

/-- A SCANNING slot becomes FREE (step 2 of R116). -/
def OutSlot.unscan : OutSlot → OutSlot
  | .scanning _ => .free
  | x => x

/-- A PUBLISHED slot becomes FREE (R118). -/
def OutSlot.unpublish : OutSlot → OutSlot
  | .published _ => .free
  | x => x

/-- The rotation of a mark with the top state `top` (R116). -/
def Output.rotate (o : Output) (top : TopState) : Output :=
  let s1 := if o.slots.toList.any OutSlot.isPublished then o.slots.map OutSlot.rotate else o.slots
  if top = .idle ∨ o.blank = true then { o with slots := s1.map OutSlot.unscan, blank := false }
  else { o with slots := s1 }

/-- What a STOP does to the slots: PUBLISHED becomes FREE, the blank flag is set (R118). -/
def Output.stop (o : Output) : Output :=
  { o with slots := o.slots.map OutSlot.unpublish, blank := true }

/-! ### The line buffer (R120, R121) -/

/-- A place whose line is still being fetched. -/
def LinePlace.fetching (p : LinePlace) : Bool := !p.dropped && decide (p.got.length < lineBytes)

/-- The fetch of the next line not yet fetched begins when a place is free and no line is being fetched, up
to line 767 (R120). -/
def Output.refill (o : Output) : Output :=
  if o.source.isSome ∧ o.places.length < 2 ∧ o.nextLine < 768 ∧ o.places.any LinePlace.fetching = false then
    { o with places := o.places ++ [⟨o.nextLine, [], false⟩], nextLine := o.nextLine + 1 }
  else o

/-- A new picture begins: the source of the period is fixed, the line buffer is empty, the underrun flag is
clear, and line 0 is fetched (R119, R120, R122). -/
def Output.newPicture (o : Output) : Output :=
  Output.refill { o with source := o.scanning, places := [], nextLine := 0, linesEnded := 0, reported := false }

/-- A SCAN burst brought bytes of a line: they join its place, unless the place is gone or dropped (R121). -/
def Output.receive (o : Output) (line : Nat) (bytes : List Byte) : Output :=
  Output.refill { o with
    places := o.places.map fun p =>
      if p.line = line ∧ p.dropped = false then { p with got := p.got ++ bytes } else p }

/-- The line being sent: the first whose time has not ended (R120). -/
def Output.current (o : Output) : Option LinePlace := o.places.find? fun p => decide (p.line = o.linesEnded)

/-- The current line's time ends: its place is free, and the next line's fetch begins (R120). -/
def Output.endLine (o : Output) : Output :=
  Output.refill { o with
    places := o.places.filter fun p => decide (p.line ≠ o.linesEnded)
    linesEnded := o.linesEnded + 1 }

/-- The current line is dropped at an underrun, counted, and the fetch goes on (R121). -/
def Output.dropLine (o : Output) : Output :=
  Output.refill { o with
    places := o.places.map fun p => if p.line = o.linesEnded then { p with dropped := true } else p
    underruns := o.underruns + 1#16 }

/-- LINE_TIME_END (R120): of a line 0 to 767. -/
def lineTimeEndEvent (s : State) : State :=
  if s.out.linesEnded < 768 then arbitrate (s.setOut s.out.endLine) else s

def execLineTimeEnd (s : State) : Result := .next (s.unlessAsserted lineTimeEndEvent)

/-- The UNDERRUN notice's payload (R122, Table 11-8). -/
def underrunPayload (s : State) (k : Fin 3) : List Byte :=
  le32 s.timer.markTime.toNat ++ le16 s.out.linesEnded ++ le16 ((s.out.slots[k].seq?.getD 0#16).toNat) ++
    le16 (s.out.underruns + 1#16).toNat

/-- LINE_UNDERRUN (R121, R122): in a period whose source is a slot, when the line being sent has not
arrived whole and is not dropped yet; the first of a period hands an UNDERRUN notice. -/
def lineUnderrunEvent (s : State) : State :=
  match s.out.source, s.out.current with
  | some k, some p =>
    if p.fetching then
      let s1 := s.setOut s.out.dropLine
      arbitrate (if s.out.reported then s1
        else (s1.setOut { s1.out with reported := true }).notice .underrun (underrunPayload s k))
    else s
  | _, _ => s

def execLineUnderrun (s : State) : Result := .next (s.unlessAsserted lineUnderrunEvent)

/-! ### The pixels that leave the port (R119 to R123) -/

/-- The line time L (R120). -/
def Timer.lineTime (t : Timer) : Nat := t.timing.period / 800

/-- The counter value at which pixel `k` of line `n` leaves the port (R120). -/
def Timer.pixelTime (t : Timer) (n k : Nat) : Nat := (n + 1) * t.lineTime + k * t.lineTime / 512

/-- Pixel `k` of line `n` as its place of the line buffer has it: from the slot when its bytes have arrived, else
the fill colour, as in a fill picture (R119, R121, R123). -/
def State.pixelValue (s : State) (n k : Nat) : Pixel :=
  match s.out.source, s.out.places.find? (fun p => decide (p.line = n)) with
  | some _, some p => if 3 * k + 3 ≤ p.got.length then pixelAt p.got (3 * k) else s.active.fill
  | _, _ => s.active.fill

/-- Pixel `k` of line `n` at the port, when it leaves at the present counter value; none at any other counter
value, outside the 768 lines of 512 pixels, and while the reset input is asserted (R120, R139). -/
def State.displayPixel (s : State) (n k : Nat) : Option Pixel :=
  if s.resetAsserted = false ∧ n < 768 ∧ k < 512 ∧ s.timer.pixelTime n k = s.timer.counter then
    some (s.pixelValue n k)
  else none

/-- The line whose time the counter value lies in; none in the first line time after the mark and after line 767
(R120). -/
def Timer.lineNow (t : Timer) : Option Nat :=
  if t.lineTime ≤ t.counter ∧ t.counter < 769 * t.lineTime then some (t.counter / t.lineTime - 1) else none

/-- What the display port sends at the present counter value: the pixels of one line that leave it, in column
order, or no picture data (R120). -/
def State.displayPort (s : State) : List Pixel :=
  match s.timer.lineNow with
  | some n => (List.range 512).filterMap fun k => s.displayPixel n k
  | none => []

end Sys2Proof.Machine
end

