-- ==== Sys2Proof/Machine/Composing.lean ====
section
/-! DEFINITION. The tile composer (Section 5): selection answers, tile decisions, the three-stage pipeline,
frame complete, abandon, and frame records. -/

namespace Sys2Proof.Machine

/-! ### Selection (R74, R75, R86, R89) -/

/-- Does any needed camera of a tile record have a PENDING entry (R88). -/
def Composer.awaits (c : Composer) (r : TileRecord) : Bool :=
  r.needs.any fun i => decide (c.selection[i] = .pending)

/-- The record of tile `t` among the kept tile-map runs: four bytes, when its run is kept (R130). -/
def Composer.recordBytes (c : Composer) (t : Nat) : Option (List Byte) :=
  (c.mapRun (t / 64)).map fun r => slice r.bytes (4 * (t % 64)) 4

/-- R89: in WAITING, the composer returns to ISSUING when no needed camera of the waiting tile is PENDING
any longer; the decision itself is the next TILE_DECISION (log 8). -/
def Composer.resume (c : Composer) : Composer :=
  if c.state = .waiting then
    match (c.recordBytes c.index).bind tileRecordOf with
    | some r => if c.awaits r then c else { c with state := .issuing }
    | none => c
  else c

/-- A selection request reaches camera port `i`; the answer goes to the composer and the point is no
longer armed (R61, R74, R86, R89). -/
def selectCamera (i : Fin 4) (s : State) : State :=
  let c := s.cams[i]
  let a := c.answer i s.active s.timer.timebase
  ((s.setCam i (c.selected i s.active s.timer.timebase)).setTimer
    { s.timer with armed := s.timer.armed.set i false }).setComp
      (Composer.resume { s.comp with selection := s.comp.selection.set i a })

/-- SELECTION_EVENT (R74): of an armed point. -/
def selectionEvent (i : Fin 4) (s : State) : State := if s.timer.armed[i] then selectCamera i s else s

def execSelectionEvent (i : Fin 4) (s : State) : Result := .next (s.unlessAsserted (selectionEvent i))

/-- One armed point is cancelled: disarmed, its camera recorded NOT_REACHED (R75). -/
def cancelPoint (i : Fin 4) (s : State) : State :=
  if s.timer.armed[i] then
    (s.setTimer { s.timer with armed := s.timer.armed.set i false }).setComp
      { s.comp with selection := s.comp.selection.set i (.unavailable .notReached) }
  else s

/-- Every armed point is cancelled at the end of a composition (R75). -/
def cancelPoints (s : State) : State := forCams cancelPoint s

/-- The port of a camera whose entry is available releases its slot (R63). -/
def releaseSlot (i : Fin 4) (s : State) : State :=
  match s.comp.selection[i] with
  | .available _ => s.setCam i s.cams[i].release
  | _ => s

/-- All of them do at the end of a composition (R63, R97, R102). -/
def releaseSlots (s : State) : State := forCams releaseSlot s

/-! ### Tile decision (R88, R90, R91) -/

/-- The available needed cameras of a tile, in camera order (R95). -/
def Composer.views (c : Composer) (r : TileRecord) : List View :=
  r.needs.filterMap fun i => match c.selection[i] with
    | .available a => some ⟨i, a⟩
    | _ => none

/-- A tile is FRESH (R90). -/
def Composer.isFresh (c : Composer) (r : TileRecord) : Bool :=
  match r with
  | .void => true
  | .body => true
  | .single _ => !(c.views r).isEmpty
  | .blend _ _ _ => !(c.views r).isEmpty

/-- The tile's hold age after its decision (R90, R91). -/
def Composer.newAge (c : Composer) (r : TileRecord) (t : Nat) : Nat :=
  if c.isFresh r then 0 else min 255 (c.holdTable.toList.getD t 0 + 1)

/-- The tile's treatment with its new age and the active hold limit (R90, R91). -/
def Composer.treat (c : Composer) (r : TileRecord) (age limit : Nat) : Treatment :=
  if c.isFresh r then .fresh
  else match c.hold with
    | some k => if age ≤ limit then .held k else .filled
    | none => .filled

/-! ### The pipeline (R94, R95) -/

/-- A decided tile is issued into FETCH when FETCH is free, in ISSUING; issuing tile 383 enters DRAINING
(R88, R94). Tile-map runs that the tile index has passed are dropped (R130). -/
def Composer.issue (c : Composer) : Composer :=
  match c.state, c.decided, c.fetch with
  | .issuing, some t, none =>
    { c with
      decided := none
      fetch := some ⟨t, t.fetchRuns.flatMap Run.cut, []⟩
      index := c.index + 1
      mapRuns := c.mapRuns.filter fun r => decide (c.index + 1 ≤ 64 * r.run + 63)
      fresh := if t.treatment = .fresh then c.fresh + 1 else c.fresh
      held := match t.treatment with
        | .held _ => c.held + 1
        | _ => c.held
      filled := if t.treatment = .filled then c.filled + 1 else c.filled
      state := if c.index + 1 = 384 then .draining else .issuing }
  | _, _, _ => c

/-- A tile whose FETCH work is done moves to an empty SAMPLE stage (R94); a tile with no SAMPLE work has
its pixels at once (R95). -/
def Composer.toSample (c : Composer) (active : Params) : Composer :=
  match c.fetch, c.sample with
  | some ⟨t, [], got⟩, none =>
    { c with
      fetch := none
      sample := some ⟨t, got, (t.sampleRuns got).flatMap Run.cut, [],
        if t.fromCameras then none else some (t.copied active got)⟩ }
  | _, _ => c

/-- A tile whose SAMPLE work is done moves to an empty STORE stage (R94). -/
def Composer.toStore (c : Composer) : Composer :=
  match c.sample, c.store with
  | some ⟨t, _, _, _, some px⟩, none => { c with sample := none, store := some ⟨t, px, 0⟩ }
  | _, _ => c

/-- Every move that is possible, once: the tile ahead first. -/
def Composer.advanceOnce (c : Composer) (active : Params) : Composer := (c.toStore.toSample active).issue

/-- The pipeline moves on until no tile can move; three rounds take a tile from its decision to STORE. -/
def Composer.advance (c : Composer) (active : Params) : Composer :=
  ((c.advanceOnce active).advanceOnce active).advanceOnce active

/-- No tile is in flight (R94). -/
def Composer.empty (c : Composer) : Bool := c.fetch.isNone && c.sample.isNone && c.store.isNone

/-- The tile at the tile index is decided, or the composer enters WAITING (R88). -/
def Composer.decideTile (c : Composer) (r : TileRecord) (p : Params) (slot : Fin 3) (pair : BankPair) : Composer :=
  if c.awaits r then { c with state := .waiting }
  else
    let age := c.newAge r c.index
    let treatment := c.treat r age p.holdLimit
    let views := if treatment = .fresh then c.views r else []
    Composer.advance { c with
      decided := some ⟨c.index, r, treatment, slot, pair, views⟩
      holdTable := c.holdTable.setIfInBounds c.index age } p

/-- TILE_DECISION (R88): in ISSUING, with no decided tile waiting for FETCH and the tile's record to hand.
A record that is not well formed, which R5 rules out, is the fault `malformedTile`. -/
def tileDecision (s : State) : Result :=
  let c := s.comp
  if c.state = .issuing ∧ c.decided = none ∧ c.index < 384 then
    match c.recordBytes c.index, c.slot, s.active.pair with
    | some bs, some k, some pair =>
      match tileRecordOf bs with
      | some r => .next (arbitrate (s.setComp (c.decideTile r s.active k pair)))
      | none => .fault .malformedTile
    | _, _, _ => .next s
  else .next s

def execTileDecision (s : State) : Result := if s.resetAsserted then .next s else tileDecision s

/-- The zone statistics after a tile's SAMPLE arithmetic (R20, R108). -/
def addTileTriples (t : Tile) (px : List PixelOutcome) (zs : Vector Zone 4) : Vector Zone 4 :=
  match t.record with
  | .blend p _ z => addTriples z p (px.filterMap fun o => o.lumas) zs
  | _ => zs

/-- SAMPLE_ARITHMETIC_DONE (R95): of a tile whose source reads are complete and whose pixels are not known
yet; the balance unit takes the tile's triples. -/
def sampleArithmeticDone (s : State) : State :=
  match s.comp.sample with
  | some ⟨t, fetched, [], got, none⟩ =>
    let px := t.compute s.active fetched got
    let c : Composer :=
      { s.comp with sample := some ⟨t, fetched, [], got, some (px.flatMap fun o => o.pixel.bytes)⟩ }
    arbitrate ((s.setComp (c.advance s.active)).setZones (addTileTriples t px s.zones))
  | _ => s

def execSampleArithmeticDone (s : State) : Result := .next (s.unlessAsserted sampleArithmeticDone)

/-! ### Frame records (R103, R104) -/

/-- The frame record of the composition that ends. -/
def frameRecord (s : State) (o : FrameOutcome) : FrameRecord where
  seq := s.comp.seq
  markTime := s.comp.markTime
  outcome := o
  issued := s.comp.index
  answers := s.comp.selection
  gains := s.active.gains
  height := s.active.height
  pair := s.active.pair.getD ⟨0, 0, 0⟩
  fresh := s.comp.fresh
  held := s.comp.held
  filled := s.comp.filled

/-- A record enters the history at the newest end; at most eight are kept (R104). -/
def addRecord (h : List FrameRecord) (r : FrameRecord) : List FrameRecord := (r :: h).take 8

/-! ### Frame complete (R96 to R99, R138) -/

/-- The availability set (R86). -/
def Composer.availability (c : Composer) : Vector Bool 4 :=
  c.selection.map fun a => match a with
    | .available _ => true
    | _ => false

/-- The COVERAGE notice's payload (R98, Table 11-8). -/
def coveragePayload (c : Composer) : List Byte :=
  le16 c.seq.toNat ++ c.selection.toList.map Selection.code

/-- Step 6 of R97: a COVERAGE notice when there is no reference or the set differs; the set becomes the
reference (R98). -/
def settleCoverage (s : State) : State :=
  let now := s.comp.availability
  let s1 := s.setComp { s.comp with coverage := some now }
  if s.comp.coverage = some now then s1 else s1.notice .coverage (coveragePayload s.comp)

/-- The shot's decision at frame complete in SHOT (R138). -/
def Top.completeShot (t : Top) : Top :=
  if t.repeatShot then ⟨.shot, true, false⟩ else ⟨.frozen, false, false⟩

/-- Step 7 of R97: in SHOT, the top-state control settles the shot and a SHOT_DONE notice carries the top
state after it (R99, R138). -/
def settleShot (s : State) : State :=
  if s.top.state = .shot then
    (s.setTop s.top.completeShot).notice .shotDone (le16 s.comp.seq.toNat ++ [s.top.completeShot.state.code])
  else s

/-- Make one output slot PUBLISHED with its number unchanged (R117). -/
def OutSlot.publish : OutSlot → OutSlot
  | .composing q => .published q
  | x => x

/-- The composing slot becomes PUBLISHED (step 3 of R97). -/
def publishSlot (s : State) : State :=
  match s.comp.slot with
  | some k => s.setOut { s.out with slots := s.out.slots.set k s.out.slots[k].publish }
  | none => s

/-- The composing slot becomes FREE (R102). -/
def freeSlot (s : State) : State :=
  match s.comp.slot with
  | some k => s.setOut { s.out with slots := s.out.slots.set k .free }
  | none => s

/-- The end of a composition in the composer: IDLE, no slot, no hold source, every entry PENDING. -/
def Composer.finish (c : Composer) : Composer :=
  { c with state := .idle, slot := none, hold := none, selection := Vector.replicate 4 .pending }

/-- Frame complete: the hand-offs of R97 in order. -/
def frameComplete (s : State) : State :=
  let s1 := publishSlot (releaseSlots (cancelPoints s))
  let s2 := s1.setComp { s1.comp with history := addRecord s1.comp.history (frameRecord s1 .published) }
  let s3 := settleShot (settleCoverage (gainUpdate s2))
  s3.setComp s3.comp.finish

/-! ### Abandon (R101, R102) -/

/-- The STOP reply owed is queued (R102). -/
def payStop (s : State) : State :=
  match s.stopOwed with
  | some tag => (s.setStopOwed none).replyOk 0x41#8 tag []
  | none => s

/-- The end of an abandon (R102). -/
def abandonEnd (s : State) : State :=
  let s1 := releaseSlots (freeSlot s)
  let s2 := s1.setComp { s1.comp with history := addRecord s1.comp.history (frameRecord s1 .abandoned) }
  payStop ((s2.setZones Zone.cleared).setComp s2.comp.finish)

/-- Is the client a tile-map read. -/
def Client.isTileMap : Client → Bool
  | .tileMap _ => true
  | _ => false

/-- The beginning of an abandon (R101): armed points are cancelled, nothing more is issued, a decided tile
is dropped, and a tile-map read on the port is no longer wanted. -/
def abandonBegin (s : State) : State :=
  let s1 := cancelPoints s
  (s1.setComp { s1.comp with state := .abandoning, decided := none }).setArb (s1.arb.unwantIf Client.isTileMap)

/-- The composition ends when its pipeline has emptied: frame complete in DRAINING (R96), the end of the
abandon in ABANDONING (R102). -/
def settleEnd (s : State) : State :=
  if s.comp.empty then
    match s.comp.state with
    | .draining => frameComplete s
    | .abandoning => abandonEnd s
    | _ => s
  else s

/-! ### Completion of a burst of COMP (R94, R95, R130) -/

/-- A STORE burst is in DRAM; after the last one the tile leaves the pipeline. -/
def storeBurstDone (len : Nat) (s : State) : State :=
  match s.comp.store with
  | none => s
  | some st =>
    let c : Composer :=
      if tileBytes ≤ st.written + len then { s.comp with store := none }
      else { s.comp with store := some { st with written := st.written + len } }
    settleEnd (s.setComp (c.advance s.active))

/-- A SAMPLE burst has brought source bytes. -/
def sampleBurstDone (read : List Byte) (s : State) : State :=
  match s.comp.sample with
  | some ⟨t, fetched, _ :: todo, got, px⟩ =>
    s.setComp { s.comp with sample := some ⟨t, fetched, todo, got ++ read, px⟩ }
  | _ => s

/-- A FETCH burst has brought bytes; a tile whose FETCH work is done may move on. -/
def fetchBurstDone (read : List Byte) (s : State) : State :=
  match s.comp.fetch with
  | some ⟨t, _ :: todo, got⟩ =>
    s.setComp (Composer.advance { s.comp with fetch := some ⟨t, todo, got ++ read⟩ } s.active)
  | _ => s

/-- A tile-map run has arrived and is kept (R130). -/
def mapBurstDone (m : Nat) (read : List Byte) (s : State) : State :=
  s.setComp { s.comp with mapRuns := s.comp.mapRuns ++ [⟨m, read⟩] }

end Sys2Proof.Machine
end

