-- ==== Sys2Proof/Machine/Cadence.lean ====
section
/-! DEFINITION. CADENCE_MARK (R68, R70 to R73, R84) and one microsecond of the timebase (R67, R68, log 1). -/

namespace Sys2Proof.Machine

/-! ### The mark (R68) -/

/-- Step 1 of R68: the counter wraps to 0 and pending timing takes effect. -/
def Timer.wrap (t : Timer) : Timer :=
  match t.pendingTiming with
  | some n => { t with counter := 0, timing := n, pendingTiming := none }
  | none => { t with counter := 0 }

/-- Is the client the display. -/
def Client.isScan : Client → Bool
  | .scan _ => true
  | _ => false

/-- Step 2 of R68: the output slots rotate and a new picture begins; a SCAN burst of the picture before is
no longer wanted (R116, R119, R120). -/
def markDisplay (s : State) : State :=
  (s.setOut (s.out.rotate s.top.state).newPicture).setArb (s.arb.unwantIf Client.isScan)

/-- A composition is wanted at a mark (4.3). -/
def Top.wants (t : Top) : Bool :=
  match t.state with
  | .run => true
  | .shot => t.shotPending
  | _ => false

/-- The composer at a composition start (R84). -/
def Composer.begin (c : Composer) (slot : Fin 3) (hold : Option (Fin 3)) (now : Word) : Composer :=
  { c with
    state := .issuing
    index := 0
    mapRuns := []
    slot := some slot
    hold := hold
    markTime := now
    holdTable := if c.freshStart then Vector.replicate 384 0 else c.holdTable
    coverage := if c.freshStart then none else c.coverage
    freshStart := false
    fresh := 0
    held := 0
    filled := 0
    seq := c.seq + 1#16 }

/-- A composition start into output slot `k` (R70, R77, R84, R107, R117), before its selections. -/
def compositionOpen (k : Fin 3) (s : State) : State :=
  (((((s.setActive s.staged).setTimer
    { s.timer with lateRun := false, armed := Vector.replicate 4 true }).setTop
    { s.top with shotPending := false }).setZones Zone.cleared).setOut
    { s.out with slots := s.out.slots.set k (.composing (s.comp.seq + 1#16)) }).setComp
    (s.comp.begin k s.out.scanning s.timer.timebase)

/-- A composition start: a camera whose offset is 0 is selected within it (R74). -/
def compositionStart (k : Fin 3) (s : State) : State :=
  forCams (fun i s => if s.timer.timing.offsets[i] = 0 then selectCamera i s else s) (compositionOpen k s)

/-- A missed mark (R71, R73). -/
def missedMark (s : State) : State :=
  let s1 := s.setComp { s.comp with late := s.comp.late + 1#16 }
  if s.timer.lateRun then s1
  else
    (s1.setTimer { s.timer with lateRun := true }).notice .late
      (le32 s.timer.timebase.toNat ++ le16 s1.comp.late.toNat ++ le16 s.comp.seq.toNat)

/-- A mark at which no composition is wanted (R72). -/
def passMark (s : State) : State := s.setTimer { s.timer with lateRun := false }

/-- Step 3 of R68: the mark is settled (Table 4-2). R84 and R4 say that a start always finds a FREE slot and
a height table; a state without one is a fault (log 12). -/
def settleMark (s : State) : Result :=
  if s.top.wants then
    if s.comp.state = .idle then
      match s.out.lowestFree, s.staged.table with
      | none, _ => .fault .noFreeOutputSlot
      | some _, none => .fault .noHeightTable
      | some k, some _ => .next (arbitrate (compositionStart k s))
    else .next (arbitrate (missedMark s))
  else .next (arbitrate (passMark s))

/-- CADENCE_MARK (R68), at the timebase value of the wrap. -/
def execCadenceMark (s : State) : Result :=
  if s.resetAsserted then .next s else settleMark (markDisplay (s.setTimer s.timer.wrap))

/-! ### One microsecond (R67, R68, R47, R120; log 1 to log 3) -/

/-- The loss timer's remaining time, one microsecond later. -/
def Camera.countDown (c : Camera) : Camera := { c with loss := c.loss.map fun n => n - 1 }

/-- The counter after one microsecond: it counts from 0 to period − 1 and then wraps to 0 (R68). -/
def Timer.nextCounter (t : Timer) : Nat := if t.timing.period ≤ t.counter + 1 then 0 else t.counter + 1

/-- The last pixel of a line that has left the port `d` µs after the line's time began: the largest k up to
511 with (k × L) div 512 at most d (R120). -/
def lastPixelSent (lineTime d : Nat) : Nat := min 511 (((d + 1) * 512 - 1) / lineTime)

/-- The display's events at counter value `t` in a period whose source is a slot: the line time that ends,
and the line being sent when the port has come to a pixel not in the buffer (R120, R121; DEDUCED, log 16). -/
def displayDue (o : Output) (lineTime t : Nat) : List Instr :=
  if o.source.isNone ∨ lineTime = 0 then []
  else
    let ended := if 2 * lineTime ≤ t ∧ t % lineTime = 0 ∧ t / lineTime ≤ 769 then [Instr.lineTimeEnd] else []
    let n := t / lineTime - 1
    let late := if lineTime ≤ t ∧ n ≤ 767 then
        (o.places.any fun p =>
          decide (p.line = n) && p.fetching && decide (p.got.length / 3 ≤ lastPixelSent lineTime (t % lineTime)))
      else false
    ended ++ (if late then [Instr.lineUnderrun] else [])

/-- The groups of timer events due at the next microsecond; within a group the order is the manual's. -/
def dueGroups (s : State) : List (List Instr) :=
  let t := s.timer.nextCounter
  let mark := if t = 0 then [[Instr.cadenceMark]] else []
  let points := cams4.filterMap fun i =>
    if s.timer.armed[i] = true ∧ t ≠ 0 ∧ s.timer.timing.offsets[i] = t then some [Instr.selectionEvent i] else none
  let losses := cams4.filterMap fun i =>
    if s.cams[i].loss = some 1 then some [Instr.lossTimerExpiry i] else none
  let display := match (if t = 0 then [] else displayDue s.out s.timer.lineTime t) with
    | [] => []
    | es => [es]
  mark ++ points ++ losses ++ display

/-- Put the groups in an order drawn from the free value, each into a free place among those after it; the
counter moves on by one for each value read (log 3). -/
def tieBreak (k : Nat) : List (List Instr) → List (List Instr) × Nat
  | [] => ([], k)
  | g :: gs =>
    match tieBreak k gs with
    | ([], k') => ([g], k')
    | (h :: hs, k') => ((h :: hs).insertIdx (Config.tieOrder k' % ((h :: hs).length + 1)) g, k' + 1)

/-- One microsecond passes: the timebase, the cadence counter and the running loss timers count, and the
events due are put in the queue. While the reset input is asserted nothing counts (log 10). -/
def tick (s : State) : State :=
  if s.resetAsserted then s
  else
    let due := tieBreak s.ties (dueGroups s)
    (((s.setCams (s.cams.map Camera.countDown)).setTimer
      { s.timer with timebase := s.timer.timebase + 1#32, counter := s.timer.nextCounter }).setTies due.2).setPending
      (s.pending ++ due.1.flatten)

end Sys2Proof.Machine
end

