-- ==== Sys2Proof/Machine/BankManager.lean ====
section
/-! DEFINITION. The bank manager's requests (R24 to R29), verification (R31 to R35), and BODY_WRITE, which
is a memory job of the same requester (R125). -/

namespace Sys2Proof.Machine

/-! ### Verification (R31 to R35) -/

/-- The idle engine takes the bank at the head of the verify queue (R31). -/
def Banks.takeHead (b : Banks) : Banks :=
  match b.engine, b.queue with
  | none, k :: _ => { b with engine := some ⟨k, []⟩ }
  | _, _ => b

/-- The point range check over the bank's bytes: every record of sections 0 to 3 (R33). -/
def pointsPass (bytes : List Byte) : Bool := (List.range 25220).all fun k => pointInRange bytes (4 * k)

/-- Section 5 of a bank's bytes. -/
def tileMapOf (bytes : List Byte) : List Byte := slice bytes (sectionOffset 5) (sectionSize 5)

/-- The tile record check over the bank's bytes: all 384 records of section 5 (R34). -/
def tilesPass (bytes : List Byte) : Bool :=
  (List.range 384).all fun t => (tileRecordOf (slice (tileMapOf bytes) (4 * t) 4)).isSome

/-- The outcome of a verification and the BANK_RESULT payload after the bank number: READY with its
digest, or FAULTY with the first failure of CHECK, POINT_RANGE, TILE_RECORD (R35, Table 11-8). -/
def verdict (check : Word) (bytes : List Byte) : BankEntry × List Byte :=
  if crc32 bytes ≠ check then (.faulty, [BankEntry.faulty.code, 1#8, 0#8, 0#8, 0#8])
  else if pointsPass bytes = false then (.faulty, [BankEntry.faulty.code, 2#8, 0#8, 0#8, 0#8])
  else if tilesPass bytes = false then (.faulty, [BankEntry.faulty.code, 3#8, 0#8, 0#8, 0#8])
  else
    let d := crc32 (tileMapOf bytes)
    (.ready d, (BankEntry.ready d).code :: le32 d.toNat)

/-- The check value of a VERIFYING bank. -/
def BankEntry.check? : BankEntry → Option Word
  | .verifying c => some c
  | _ => none

/-- The verify engine's pass ends: the bank becomes READY or FAULTY, leaves the head of the queue with its
BANK_RESULT notice, and the engine takes the next head (R35). The bank in hand is VERIFYING (R30). -/
def verifyComplete (e : Engine) (s : State) : State :=
  let v := verdict (s.banks.dir[e.bank].check?.getD 0#32) e.bytes
  let b : Banks := { dir := s.banks.dir.set e.bank v.1, queue := s.banks.queue.tail, engine := none }
  (s.setBanks b.takeHead).notice .bankResult (byteOf e.bank.val :: v.2)

/-! ### Bank requests (R24 to R29) -/

/-- BANK_OPEN (R25): the bank becomes LOADING, its digest absent, and its fill holds the slot (R26). -/
def bankOpenBody (tag : Byte) (p : List Byte) (s : State) : State :=
  if p.length ≠ 1 then s.replyStatus 0x20#8 tag .length
  else if 7 < u8At p 0 then s.replyStatus 0x20#8 tag .range
  else
    let b := Fin.ofNat 8 (u8At p 0)
    if (s.banks.dir[b].check?).isSome ∨ s.bankInUse b = true then s.replyStatus 0x20#8 tag .bankState
    else
      arbitrate ((s.setBanks { s.banks with dir := s.banks.dir.set b .loading }).setSlot
        (some ⟨0x20#8, tag, .bankFill b, 0, []⟩))

/-- BANK_WRITE (R27). -/
def bankWriteBody (tag : Byte) (p : List Byte) (s : State) : State :=
  if p.length < 5 ∨ 1022 < p.length then s.replyStatus 0x21#8 tag .length
  else if 7 < u8At p 0 ∨ 5 < u8At p 1 ∨ sectionSize (u8At p 1) < u16At p 2 + (p.length - 4) then
    s.replyStatus 0x21#8 tag .range
  else
    let b := Fin.ofNat 8 (u8At p 0)
    if s.banks.dir[b] ≠ .loading then s.replyStatus 0x21#8 tag .bankState
    else
      arbitrate (s.setSlot
        (some ⟨0x21#8, tag, .bankWrite b (Fin.ofNat 6 (u8At p 1)) (u16At p 2) (p.drop 4), 0, []⟩))

/-- BANK_CLOSE (R28). -/
def bankCloseBody (tag : Byte) (p : List Byte) (s : State) : State :=
  if p.length ≠ 5 then s.replyStatus 0x22#8 tag .length
  else if 7 < u8At p 0 then s.replyStatus 0x22#8 tag .range
  else
    let b := Fin.ofNat 8 (u8At p 0)
    if s.banks.dir[b] ≠ .loading then s.replyStatus 0x22#8 tag .bankState
    else
      let bm : Banks :=
        { s.banks with
          dir := s.banks.dir.set b (.verifying (BitVec.ofNat 32 (u32At p 1)))
          queue := s.banks.queue ++ [b] }
      arbitrate ((s.setBanks bm.takeHead).replyStatus 0x22#8 tag .accepted)

/-- A bank whose bytes BANK_READ may return: LOADING, READY or FAULTY (R29). -/
def BankEntry.readable : BankEntry → Bool
  | .empty => false
  | .loading => true
  | .verifying _ => false
  | .ready _ => true
  | .faulty => true

/-- BANK_READ (R29). -/
def bankReadBody (tag : Byte) (p : List Byte) (s : State) : State :=
  if p.length ≠ 6 then s.replyStatus 0x23#8 tag .length
  else if 7 < u8At p 0 ∨ 5 < u8At p 1 ∨ u16At p 4 = 0 ∨ 1018 < u16At p 4 ∨
      sectionSize (u8At p 1) < u16At p 2 + u16At p 4 then
    s.replyStatus 0x23#8 tag .range
  else
    let b := Fin.ofNat 8 (u8At p 0)
    if s.banks.dir[b].readable = false then s.replyStatus 0x23#8 tag .bankState
    else
      arbitrate (s.setSlot
        (some ⟨0x23#8, tag, .bankRead b (Fin.ofNat 6 (u8At p 1)) (u16At p 2) (u16At p 4), 0, []⟩))

/-- BODY_WRITE (R125), taken in IDLE and FROZEN. -/
def bodyWriteBody (tag : Byte) (p : List Byte) (s : State) : State :=
  if p.length < 5 ∨ 1022 < p.length then s.replyStatus 0x24#8 tag .length
  else if s.top.state = .run ∨ s.top.state = .shot then s.replyStatus 0x24#8 tag .state
  else if 383 < u16At p 0 ∨ 3072 < u16At p 2 + (p.length - 4) then s.replyStatus 0x24#8 tag .range
  else
    arbitrate (s.setSlot
      (some ⟨0x24#8, tag, .bodyWrite (Fin.ofNat 384 (u16At p 0)) (u16At p 2) (p.drop 4), 0, []⟩))

def execBankOpen (tag : Byte) (p : List Byte) (s : State) : Result :=
  .next (passGate 0x20#8 tag (bankOpenBody tag p) s)

def execBankWrite (tag : Byte) (p : List Byte) (s : State) : Result :=
  .next (passGate 0x21#8 tag (bankWriteBody tag p) s)

def execBankClose (tag : Byte) (p : List Byte) (s : State) : Result :=
  .next (passGate 0x22#8 tag (bankCloseBody tag p) s)

def execBankRead (tag : Byte) (p : List Byte) (s : State) : Result :=
  .next (passGate 0x23#8 tag (bankReadBody tag p) s)

def execBodyWrite (tag : Byte) (p : List Byte) (s : State) : Result :=
  .next (passGate 0x24#8 tag (bodyWriteBody tag p) s)

/-! ### Completion of a burst of AUX (R26, R27, R29, R31, R125) -/

/-- A burst of the request job is complete: the last one frees the slot and queues the owed reply. -/
def jobBurstDone (len : Nat) (read : List Byte) (s : State) : State :=
  match s.slot with
  | none => s
  | some j =>
    let moved := j.moved + len
    let got := j.got ++ read
    if j.work.run.len ≤ moved then (s.setSlot none).replyOk j.kind j.tag got
    else s.setSlot (some { j with moved := moved, got := got })

/-- A burst of the verify engine has brought bytes; the last one completes the verification. -/
def verifyBurstDone (read : List Byte) (s : State) : State :=
  match s.banks.engine with
  | none => s
  | some e =>
    let e' : Engine := { e with bytes := e.bytes ++ read }
    if bankSize ≤ e'.bytes.length then verifyComplete e' s
    else s.setBanks { s.banks with engine := some e' }

end Sys2Proof.Machine
end

