-- ==== Sys2Proof/Machine/MemoryEvents.lean ====
section
/-! DEFINITION. The memory start (R128) and BURST_COMPLETE (R129). -/

namespace Sys2Proof.Machine

/-! ### Memory start (R128, R140) -/

/-- Bursts of the body fill (Table 8-3). -/
def fillBursts : Nat := 4608

/-- Burst `k` of the body fill. -/
def fillBurst (k : Nat) : Burst :=
  ⟨.bodyFill, bodyBase + 256 * k, 256, some ((List.range 256).map fun i => bodyFillByte (256 * k + i)), true⟩

/-- The memory start has the port to itself: its next burst is on the port as soon as the port is free. -/
def resumeFill (s : State) : State :=
  match s.memStart, s.arb.port with
  | .bodyFill k, none => s.onPort (fillBurst k)
  | _, _ => s

/-- DRAM_IN_OPERATION (R128): the first part of the memory start ends and the body fill begins. -/
def dramInOperation (s : State) : State :=
  match s.memStart with
  | .bringUp => resumeFill (s.setMemStart (.bodyFill 0))
  | _ => s

def execDramInOperation (s : State) : Result := .next (s.unlessAsserted dramInOperation)

/-- The memory start is complete: STARTED is placed at the head of the queue, which is released (R140). -/
def memoryStartComplete (s : State) : State :=
  (s.setMemStart .complete).setLink { s.link with queue := startedMessage false s.banks.dir :: s.link.queue }

/-- A burst of the body fill is in DRAM. -/
def fillBurstDone (s : State) : State :=
  match s.memStart with
  | .bodyFill k => if fillBursts ≤ k + 1 then memoryStartComplete s else s.setMemStart (.bodyFill (k + 1))
  | _ => s

/-! ### Camera and display bursts (R56, R120) -/

/-- A burst of the oldest pending line is in DRAM; the line leaves after its last one (R56). -/
def Camera.burstDone (c : Camera) (len : Nat) : Camera :=
  match c.fifo with
  | [] => c
  | l :: rest =>
    if l.data.length ≤ l.written + len then { c with fifo := rest }
    else { c with fifo := { l with written := l.written + len } :: rest }

/-! ### BURST_COMPLETE (R129) -/

/-- The burst reaches the DRAM and the port is free. -/
def landBurst (b : Burst) (s : State) : State :=
  let s1 := s.setArb { s.arb with port := none }
  match b.data with
  | some bytes => s1.setMem (Memory.writeRun s.mem b.addr bytes)
  | none => s1

/-- The bytes that a completed read burst brings. -/
def burstRead (b : Burst) (s : State) : List Byte :=
  match b.data with
  | some _ => []
  | none => Memory.readRun s.mem b.addr b.len

/-- The requester advances its work. -/
def creditBurst (b : Burst) (read : List Byte) (s : State) : State :=
  match b.client with
  | .scan line => s.setOut (s.out.receive line read)
  | .camera i => s.setCam i (s.cams[i].burstDone b.len)
  | .store => storeBurstDone b.len s
  | .sample => sampleBurstDone read s
  | .fetch => fetchBurstDone read s
  | .tileMap m => mapBurstDone m read s
  | .job => jobBurstDone b.len read s
  | .verify => verifyBurstDone read s
  | .bodyFill => fillBurstDone s

/-- BURST_COMPLETE (R129): the burst on the port completes; its requester takes it, unless its work has been
ended; the freed port goes to the body fill or to the next grant. While the reset input is asserted the
burst completes and nothing else happens (R139, log 10). -/
def burstComplete (s : State) : State :=
  match s.arb.port with
  | none => s
  | some b =>
    let s1 := landBurst b s
    if s.resetAsserted then s1
    else arbitrate (resumeFill (if b.wanted then creditBurst b (burstRead b s) s1 else s1))

def execBurstComplete (s : State) : Result := .next (burstComplete s)

end Sys2Proof.Machine
end

