-- ==== Sys2Proof/Machine/Control.lean ====
section
/-! DEFINITION. The top states (START, SINGLE, STOP; R135 to R137) and the resets (R139 to R142). -/

namespace Sys2Proof.Machine

/-! ### START, SINGLE, STOP -/

/-- A height table is staged or active (R135). -/
def State.hasTable (s : State) : Bool := s.staged.table.isSome || s.active.table.isSome

/-- Leave IDLE or FROZEN for a state that composes: the fresh-start flag is set (R85, R135, R136). -/
def State.leaveTo (s : State) (t : Top) : State := (s.setTop t).setComp { s.comp with freshStart := true }

/-- START (R135). -/
def startBody (tag : Byte) (p : List Byte) (s : State) : State :=
  if p.length ≠ 0 then s.replyStatus 0x40#8 tag .length
  else if s.top.state = .run ∨ s.top.state = .shot then s.replyStatus 0x40#8 tag .state
  else if s.hasTable = false then s.replyStatus 0x40#8 tag .table
  else (s.leaveTo ⟨.run, false, false⟩).replyOk 0x40#8 tag []

def execStart (tag : Byte) (p : List Byte) (s : State) : Result := .next (passGate 0x40#8 tag (startBody tag p) s)

/-- SINGLE (R136). In SHOT with no shot pending, the shot's composition runs. -/
def singleBody (tag : Byte) (p : List Byte) (s : State) : State :=
  if p.length ≠ 0 then s.replyStatus 0x42#8 tag .length
  else match s.top.state with
    | .run => s.replyStatus 0x42#8 tag .state
    | .shot =>
      if s.top.shotPending then s.replyOk 0x42#8 tag []
      else (s.setTop { s.top with repeatShot := true }).replyOk 0x42#8 tag []
    | _ =>
      if s.hasTable = false then s.replyStatus 0x42#8 tag .table
      else (s.leaveTo ⟨.shot, true, false⟩).replyOk 0x42#8 tag []

def execSingle (tag : Byte) (p : List Byte) (s : State) : Result := .next (passGate 0x42#8 tag (singleBody tag p) s)

/-- What a STOP outside IDLE does at once (R137, R118). -/
def State.haltTop (s : State) : State :=
  ((s.setTop Top.default).setComp { s.comp with freshStart := false }).setOut s.out.stop

/-- A composition is in progress and not yet abandoned (R101). -/
def Composer.composing (c : Composer) : Bool :=
  match c.state with
  | .issuing => true
  | .waiting => true
  | .draining => true
  | _ => false

/-- STOP (R137): with a composition to abandon its reply is owed until the abandon ends (R101, R102), which
is at the STOP itself when no tile is in flight. -/
def stopBody (tag : Byte) (p : List Byte) (s : State) : State :=
  if p.length ≠ 0 then s.replyStatus 0x41#8 tag .length
  else if s.top.state = .idle then s.replyOk 0x41#8 tag []
  else if s.comp.composing then settleEnd (abandonBegin (s.haltTop.setStopOwed (some tag)))
  else s.haltTop.replyOk 0x41#8 tag []

def execStop (tag : Byte) (p : List Byte) (s : State) : Result := .next (passGate 0x41#8 tag (stopBody tag p) s)

/-! ### Resets -/

/-- A burst already granted completes, and its work is ended (R129, R133). -/
def Arbiter.afterReset (a : Arbiter) : Arbiter := { Arbiter.default with port := a.unwant.port }

/-- What a soft reset leaves of a directory entry (R42). -/
def BankEntry.softReset : BankEntry → BankEntry
  | .ready d => .ready d
  | _ => .empty

/-- The soft reset (R141): every block at its soft-reset values; the READY banks and the DRAM are kept; a
burst on the port completes; the emptied queue takes the STARTED notice at once. A window still open sends
zeros from here on (R155, log 6). -/
def softReset (s : State) : State :=
  let dir := s.banks.dir.map BankEntry.softReset
  { State.reset with
    pending := s.pending
    ties := s.ties
    resetAsserted := s.resetAsserted
    memStart := .complete
    link := { Link.default with
      queue := [startedMessage true dir]
      window := s.link.window.map fun _ => ⟨none⟩ }
    banks := { Banks.default with dir := dir }
    arb := s.arb.afterReset
    mem := s.mem }

/-- RESET (R141): with a payload it is refused with LENGTH; accepted, it receives no reply. -/
def resetBody (tag : Byte) (p : List Byte) (s : State) : State :=
  if p.length ≠ 0 then s.replyStatus 0x06#8 tag .length else softReset s

def execReset (tag : Byte) (p : List Byte) (s : State) : Result := .next (passGate 0x06#8 tag (resetBody tag p) s)

/-- PIN_RESET (R139): the reset input is released; every block takes its pin-reset values and the memory
start begins; the DRAM keeps its bytes, and a burst on the port completes. R139 speaks only of a release after an
assertion; that the reset is taken whole whatever `resetAsserted` holds is a DESIGN CHOICE, unsafe (log 17). -/
def pinReset (s : State) : State :=
  { State.reset with pending := s.pending, ties := s.ties, arb := s.arb.afterReset, mem := s.mem }

/-- PIN_RESET in every state, after an assertion of the reset input (R139) or without one (DESIGN CHOICE, log 17). -/
def execPinReset (s : State) : Result := .next (pinReset s)

/-- RESET_INPUT_ASSERTED (R139, R155): from here on no event is taken, and a select window in progress is
abandoned. -/
def execResetInputAsserted (s : State) : Result :=
  .next ((s.setResetAsserted true).setLink { s.link with window := none })

end Sys2Proof.Machine
end

