-- ==== Sys2Proof/Machine/Reports.lean ====
section
/-! DEFINITION. The four reports: IDENT, STATUS, SNAPSHOT and HISTORY (R143 to R145, R104), with the
layouts of Tables 11-5 to 11-7. -/

namespace Sys2Proof.Machine

/-! ### IDENT (R143, Table 9-3) -/

/-- Part code, revision and capacities. -/
def identData : List Byte :=
  le16 0x4160 ++ [1#8, 4#8, 4#8] ++ le16 1280 ++ le16 960 ++ [8#8, 8#8] ++ le16 384 ++ [3#8, 8#8, 16#8] ++
    le16 1024 ++ le16 1018

def identBody (tag : Byte) (p : List Byte) (s : State) : State :=
  if p.length ≠ 0 then s.replyStatus 0x01#8 tag .length else s.replyOk 0x01#8 tag identData

def execIdent (tag : Byte) (p : List Byte) (s : State) : Result := .next (passGate 0x01#8 tag (identBody tag p) s)

/-! ### STATUS (R144, Table 9-4) -/

/-- Presence, active height, low bank, high bank and f: zeros when absent (Table 11-5, R156). -/
def pairData (p : Params) : List Byte :=
  match p.pair with
  | some b => 1#8 :: leInt16 p.height ++ [byteOf b.low.val, byteOf b.high.val, byteOf b.f]
  | none => [0#8, 0#8, 0#8, 0#8, 0#8, 0#8]

/-- The STATUS reply's data. -/
def statusData (s : State) : List Byte :=
  [s.top.state.code, s.comp.state.code] ++ s.banks.dir.toList.map BankEntry.code ++
    [byteOf s.banks.queue.length] ++ pairData s.active ++ le16 s.comp.late.toNat ++
    le16 s.out.underruns.toNat ++ le16 s.link.errors.toNat ++ [flagCode s.link.missed]

/-- STATUS reports the missed-notice flag and clears it in the same step (R144). -/
def statusBody (tag : Byte) (p : List Byte) (s : State) : State :=
  if p.length ≠ 0 then s.replyStatus 0x02#8 tag .length
  else (s.setLink { s.link with missed := false }).replyOk 0x02#8 tag (statusData s)

def execStatus (tag : Byte) (p : List Byte) (s : State) : Result := .next (passGate 0x02#8 tag (statusBody tag p) s)

/-! ### SNAPSHOT (R145, Table 11-6) -/

/-- A slot record of 14 bytes; fields absent in the slot's state are zero (R59, R156). -/
def RingSlot.record : RingSlot → List Byte
  | .empty => List.replicate 14 0#8
  | .filling n a l => 1#8 :: le16 n.toNat ++ le32 a.toNat ++ le32 0 ++ le16 l ++ [0#8]
  | .ready n a b l u => 2#8 :: le16 n.toNat ++ le32 a.toNat ++ le32 b.toNat ++ le16 l ++ [flagCode u]
  | .inUse n a b l => 3#8 :: le16 n.toNat ++ le32 a.toNat ++ le32 b.toNat ++ le16 l ++ [1#8]

/-- A camera block of 63 bytes. -/
def Camera.block (c : Camera) : List Byte :=
  [c.state.code, byteOf c.good] ++ le16 c.damage.toNat ++ le16 c.skipped.toNat ++ [damageCode c.lastDamage] ++
    c.slots.toList.flatMap RingSlot.record

/-- The SNAPSHOT reply's data. -/
def snapshotData (s : State) : List Byte :=
  le32 s.timer.timebase.toNat ++ le32 s.timer.counter ++ [s.top.state.code, s.comp.state.code] ++
    le16 s.comp.index ++ s.cams.toList.flatMap Camera.block

def snapshotBody (tag : Byte) (p : List Byte) (s : State) : State :=
  if p.length ≠ 0 then s.replyStatus 0x03#8 tag .length else s.replyOk 0x03#8 tag (snapshotData s)

def execSnapshot (tag : Byte) (p : List Byte) (s : State) : Result :=
  .next (passGate 0x03#8 tag (snapshotBody tag p) s)

/-! ### HISTORY (R104, Table 11-7) -/

/-- A record's seven bytes for one camera: frame number and age present when AVAILABLE. -/
def Selection.record (a : Selection) : List Byte :=
  a.code :: match a with
    | .available x => le16 x.frame.toNat ++ le32 x.age.toNat
    | _ => List.replicate 6 0#8

/-- A frame record of 56 bytes. -/
def FrameRecord.bytes (r : FrameRecord) : List Byte :=
  le16 r.seq.toNat ++ le32 r.markTime.toNat ++ [r.outcome.code] ++ le16 r.issued ++
    r.answers.toList.flatMap Selection.record ++ r.gains.toList.flatMap le16 ++ leInt16 r.height ++
    [byteOf r.pair.low.val, byteOf r.pair.high.val, byteOf r.pair.f] ++
    le16 r.fresh ++ le16 r.held ++ le16 r.filled

/-- The HISTORY reply's data: the count and the records, newest first. -/
def historyData (h : List FrameRecord) : List Byte := byteOf h.length :: h.flatMap FrameRecord.bytes

def historyBody (tag : Byte) (p : List Byte) (s : State) : State :=
  if p.length ≠ 0 then s.replyStatus 0x04#8 tag .length
  else s.replyOk 0x04#8 tag (historyData s.comp.history)

def execHistory (tag : Byte) (p : List Byte) (s : State) : Result := .next (passGate 0x04#8 tag (historyBody tag p) s)

end Sys2Proof.Machine
end

