-- ==== Sys2Proof/Machine/Staging.lean ====
section
/-! DEFINITION. The requests that write the staged set and the pending timing (Section 4): OUT_SETUP,
HEIGHT, DOORS, EXCLUDE, GAINS and HEIGHT_TABLE, and the link's own NOTICE_MASK (R154). -/

namespace Sys2Proof.Machine

/-! ### OUT_SETUP (R69) -/

def outSetupBody (tag : Byte) (p : List Byte) (s : State) : State :=
  if p.length ≠ 27 then s.replyStatus 0x18#8 tag .length
  else if s.top.state ≠ .idle then s.replyStatus 0x18#8 tag .state
  else if (timingOf p).inRange = false ∨ 60 < u8At p 26 then s.replyStatus 0x18#8 tag .range
  else
    ((s.setTimer { s.timer with pendingTiming := some (timingOf p) }).setStaged
      { s.staged with fill := pixelAt p 20, void := pixelAt p 23, holdLimit := u8At p 26 }).replyOk 0x18#8 tag []

def execOutSetup (tag : Byte) (p : List Byte) (s : State) : Result :=
  .next (passGate 0x18#8 tag (outSetupBody tag p) s)

/-! ### HEIGHT (R78) -/

/-- The height that R78 stages. -/
def clampHeight (h : Int) : Int := clampInt (-250) 250 h

def heightBody (tag : Byte) (p : List Byte) (s : State) : State :=
  if p.length ≠ 2 then s.replyStatus 0x31#8 tag .length
  else
    (s.setStaged { s.staged with height := clampHeight (i16At p 0) }).replyOk 0x31#8 tag
      (leInt16 (clampHeight (i16At p 0)))

def execHeight (tag : Byte) (p : List Byte) (s : State) : Result :=
  .next (passGate 0x31#8 tag (heightBody tag p) s)

/-! ### DOORS (R79) -/

def doorsBody (tag : Byte) (p : List Byte) (s : State) : State :=
  if p.length ≠ 2 then s.replyStatus 0x32#8 tag .length
  else if 1 < u8At p 0 ∨ 1 < u8At p 1 then s.replyStatus 0x32#8 tag .range
  else
    (s.setStaged { s.staged with leftOpen := decide (u8At p 0 = 1), rightOpen := decide (u8At p 1 = 1) }).replyOk
      0x32#8 tag []

def execDoors (tag : Byte) (p : List Byte) (s : State) : Result :=
  .next (passGate 0x32#8 tag (doorsBody tag p) s)

/-! ### EXCLUDE (R80) -/

def excludeBody (tag : Byte) (p : List Byte) (s : State) : State :=
  if p.length ≠ 1 then s.replyStatus 0x34#8 tag .length
  else if 15 < u8At p 0 then s.replyStatus 0x34#8 tag .range
  else (s.setStaged { s.staged with exclude := BitVec.ofNat 4 (u8At p 0) }).replyOk 0x34#8 tag []

def execExclude (tag : Byte) (p : List Byte) (s : State) : Result :=
  .next (passGate 0x34#8 tag (excludeBody tag p) s)

/-! ### GAINS (R81) -/

/-- The gain mode that a mode byte of 0 or 1 names (Table 11-3). -/
def modeOf (n : Nat) : GainMode := if n = 0 then .auto else .manual

/-- The gains reply's data: the four staged gains and the staged mode (Table 11-5). -/
def gainsData (p : Params) : List Byte := p.gains.toList.flatMap le16 ++ [p.mode.code]

def gainsBody (tag : Byte) (p : List Byte) (s : State) : State :=
  if p.length ≠ 9 then s.replyStatus 0x33#8 tag .length
  else if 1 < u8At p 8 then s.replyStatus 0x33#8 tag .range
  else
    (s.setStaged { s.staged with gains := gainsOf p, mode := modeOf (u8At p 8) }).replyOk 0x33#8 tag
      (gainsData { s.staged with gains := gainsOf p, mode := modeOf (u8At p 8) })

def execGains (tag : Byte) (p : List Byte) (s : State) : Result :=
  .next (passGate 0x33#8 tag (gainsBody tag p) s)

/-! ### HEIGHT_TABLE (R38, R39) -/

/-- The range test of R38 on keys and bank numbers. -/
def entryInRange (e : Int × Nat) : Bool := decide (-250 ≤ e.1 ∧ e.1 ≤ 250 ∧ e.2 ≤ 7)

/-- Each key greater than the key before it (R39). -/
def ascending : List TableEntry → Bool
  | [] => true
  | [_] => true
  | a :: b :: es => decide (a.key < b.key) && ascending (b :: es)

/-- No bank number appears twice (R39). -/
def distinctBanks : List TableEntry → Bool
  | [] => true
  | a :: es => es.all (fun e => decide (e.bank ≠ a.bank)) && distinctBanks es

/-- A bank's digest, present in READY (Table 2-2). -/
def BankEntry.digest? : BankEntry → Option Word
  | .ready d => some d
  | _ => none

/-- Every listed bank is READY, and all their digests equal the first one's (R39). -/
def readyAlike (dir : Vector BankEntry 8) (es : List TableEntry) : Bool :=
  match es with
  | [] => true
  | e :: _ => (dir[e.bank].digest?).isSome && es.all fun x => decide (dir[x.bank].digest? = dir[e.bank].digest?)

/-- The table checks of R39. -/
def tableValid (dir : Vector BankEntry 8) (es : List TableEntry) : Bool :=
  ascending es && distinctBanks es && readyAlike dir es

def heightTableBody (tag : Byte) (p : List Byte) (s : State) : State :=
  if p.length = 0 ∨ p.length ≠ 1 + 3 * u8At p 0 then s.replyStatus 0x30#8 tag .length
  else if u8At p 0 = 0 ∨ 8 < u8At p 0 ∨ (rawEntriesOf p).all entryInRange = false then s.replyStatus 0x30#8 tag .range
  else if tableValid s.banks.dir (entriesOf (rawEntriesOf p)) = false then s.replyStatus 0x30#8 tag .table
  else (s.setStaged { s.staged with table := some (entriesOf (rawEntriesOf p)) }).replyOk 0x30#8 tag []

def execHeightTable (tag : Byte) (p : List Byte) (s : State) : Result :=
  .next (passGate 0x30#8 tag (heightTableBody tag p) s)

/-! ### NOTICE_MASK (R154) -/

def noticeMaskBody (tag : Byte) (p : List Byte) (s : State) : State :=
  if p.length ≠ 1 then s.replyStatus 0x05#8 tag .length
  else if 63 < u8At p 0 then s.replyStatus 0x05#8 tag .range
  else
    (s.setLink { s.link with mask := BitVec.ofNat 6 (u8At p 0) }).replyOk 0x05#8 tag [byteAt p 0]

def execNoticeMask (tag : Byte) (p : List Byte) (s : State) : Result :=
  .next (passGate 0x05#8 tag (noticeMaskBody tag p) s)

end Sys2Proof.Machine
end

