-- ==== Sys2Proof/Machine/Window.lean ====
section
/-! DEFINITION. Select windows (R146, R147) and the owner of each request kind (R150, Tables 10-1, 11-2). -/

namespace Sys2Proof.Machine

/-- What the owner of a KIND does with a request that has passed the gate; a KIND that is none of the
request kinds is answered UNKNOWN (R150). -/
def requestBody (kind tag : Byte) (p : List Byte) : State → State :=
  if kind = 0x01#8 then identBody tag p
  else if kind = 0x02#8 then statusBody tag p
  else if kind = 0x03#8 then snapshotBody tag p
  else if kind = 0x04#8 then historyBody tag p
  else if kind = 0x05#8 then noticeMaskBody tag p
  else if kind = 0x06#8 then resetBody tag p
  else if kind = 0x10#8 then camSetupBody tag p
  else if kind = 0x11#8 then camOnBody tag p
  else if kind = 0x12#8 then camOffBody tag p
  else if kind = 0x18#8 then outSetupBody tag p
  else if kind = 0x20#8 then bankOpenBody tag p
  else if kind = 0x21#8 then bankWriteBody tag p
  else if kind = 0x22#8 then bankCloseBody tag p
  else if kind = 0x23#8 then bankReadBody tag p
  else if kind = 0x24#8 then bodyWriteBody tag p
  else if kind = 0x30#8 then heightTableBody tag p
  else if kind = 0x31#8 then heightBody tag p
  else if kind = 0x32#8 then doorsBody tag p
  else if kind = 0x33#8 then gainsBody tag p
  else if kind = 0x34#8 then excludeBody tag p
  else if kind = 0x40#8 then startBody tag p
  else if kind = 0x41#8 then stopBody tag p
  else if kind = 0x42#8 then singleBody tag p
  else fun s => s.replyStatus kind tag .unknown

/-- A request of KIND `kind` is taken at the end of its window (R147 step 6, R149, R150). -/
def takeRequest (kind tag : Byte) (p : List Byte) (s : State) : State :=
  passGate kind tag (requestBody kind tag p) s

/-- UNKNOWN_KIND (R150): a request whose KIND is no request kind is taken. -/
def execUnknownKind (kind tag : Byte) (p : List Byte) (s : State) : Result := .next (takeRequest kind tag p s)

/-- The inbound bytes of a window are settled in the order of R147. -/
def settleInbound (bs : List Byte) (s : State) : State :=
  match bs with
  | [] => s
  | sync :: _ =>
    if sync = 0x00#8 then s
    else if sync ≠ 0xA5#8 then s.linkError
    else if bs.length < 3 then s.linkError
    else if u16At bs 1 < 2 ∨ 1026 < u16At bs 1 then s.linkError
    else if bs.length < u16At bs 1 + 5 then s.linkError
    else if (crc16 (slice bs 1 (u16At bs 1 + 2))).toNat ≠ u16At bs (u16At bs 1 + 3) then s.linkError
    else takeRequest (byteAt bs 3) (byteAt bs 4) (slice bs 5 (u16At bs 1 - 2)) s

/-- SELECT_WINDOW_START (R146): the head message, or zeros, is fixed as what the window sends; zeros while
the memory start holds the queue (R140). With a window already open there is no such edge (log 10). -/
def selectWindowStart (s : State) : State :=
  match s.link.window with
  | some _ => s
  | none => s.setLink { s.link with window := some ⟨if s.starting then none else s.link.queue.head?⟩ }

def execSelectWindowStart (s : State) : Result := .next (s.unlessAsserted selectWindowStart)

/-- The window closes; a head message that it read whole is removed (step 1 of R146). -/
def closeWindow (count : Nat) (w : Window) (l : Link) : Link :=
  match w.out with
  | some m => { l with window := none, queue := if m.bytes.length ≤ count then l.queue.tail else l.queue }
  | none => { l with window := none }

/-- SELECT_WINDOW_END (R146): `inbound` is the window's whole bytes, so its length is the byte count of
both directions; a partial last byte is no part of it. -/
def selectWindowEnd (inbound : List Byte) (s : State) : State :=
  match s.link.window with
  | none => s
  | some w => settleInbound inbound (s.setLink (closeWindow inbound.length w s.link))

def execSelectWindowEnd (inbound : List Byte) (s : State) : Result := .next (s.unlessAsserted (selectWindowEnd inbound))

end Sys2Proof.Machine
end

