-- ==== Sys2Proof/Machine/Dispatch.lean ====
section
/-! DEFINITION. The meaning of each command, one arm per row of spec/opcode_table.json. -/

namespace Sys2Proof.Machine

def exec (i : Instr) (s : State) : Host.Outcome State Fault Refusal :=
  match i with
  | .pinReset => Sys2Proof.Machine.execPinReset s
  | .dramInOperation => Sys2Proof.Machine.execDramInOperation s
  | .selectWindowStart => Sys2Proof.Machine.execSelectWindowStart s
  | .selectWindowEnd inbound => Sys2Proof.Machine.execSelectWindowEnd inbound s
  | .unknownKind kind tag p => Sys2Proof.Machine.execUnknownKind kind tag p s
  | .ident tag p => Sys2Proof.Machine.execIdent tag p s
  | .status tag p => Sys2Proof.Machine.execStatus tag p s
  | .snapshot tag p => Sys2Proof.Machine.execSnapshot tag p s
  | .history tag p => Sys2Proof.Machine.execHistory tag p s
  | .noticeMask tag p => Sys2Proof.Machine.execNoticeMask tag p s
  | .reset tag p => Sys2Proof.Machine.execReset tag p s
  | .camSetup tag p => Sys2Proof.Machine.execCamSetup tag p s
  | .camOn tag p => Sys2Proof.Machine.execCamOn tag p s
  | .camOff tag p => Sys2Proof.Machine.execCamOff tag p s
  | .outSetup tag p => Sys2Proof.Machine.execOutSetup tag p s
  | .bankOpen tag p => Sys2Proof.Machine.execBankOpen tag p s
  | .bankWrite tag p => Sys2Proof.Machine.execBankWrite tag p s
  | .bankClose tag p => Sys2Proof.Machine.execBankClose tag p s
  | .bankRead tag p => Sys2Proof.Machine.execBankRead tag p s
  | .bodyWrite tag p => Sys2Proof.Machine.execBodyWrite tag p s
  | .heightTable tag p => Sys2Proof.Machine.execHeightTable tag p s
  | .height tag p => Sys2Proof.Machine.execHeight tag p s
  | .doors tag p => Sys2Proof.Machine.execDoors tag p s
  | .exclude tag p => Sys2Proof.Machine.execExclude tag p s
  | .gains tag p => Sys2Proof.Machine.execGains tag p s
  | .start tag p => Sys2Proof.Machine.execStart tag p s
  | .stop tag p => Sys2Proof.Machine.execStop tag p s
  | .single tag p => Sys2Proof.Machine.execSingle tag p s
  | .frameStart cam => Sys2Proof.Machine.execFrameStart cam s
  | .line cam bytes => Sys2Proof.Machine.execLine cam bytes s
  | .frameEnd cam => Sys2Proof.Machine.execFrameEnd cam s
  | .lossTimerExpiry cam => Sys2Proof.Machine.execLossTimerExpiry cam s
  | .cadenceMark => Sys2Proof.Machine.execCadenceMark s
  | .selectionEvent cam => Sys2Proof.Machine.execSelectionEvent cam s
  | .tileDecision => Sys2Proof.Machine.execTileDecision s
  | .sampleArithmeticDone => Sys2Proof.Machine.execSampleArithmeticDone s
  | .burstComplete => Sys2Proof.Machine.execBurstComplete s
  | .lineTimeEnd => Sys2Proof.Machine.execLineTimeEnd s
  | .lineUnderrun => Sys2Proof.Machine.execLineUnderrun s
  | .resetInputAsserted => Sys2Proof.Machine.execResetInputAsserted s

end Sys2Proof.Machine
end

