-- ==== Sys2Proof/Safety.lean ====
section
/-! DEFINITION. What claims speak of: when the link takes an ordinary request, and the laws that the manual
says every state keeps, one predicate each. A law that needs another one to be kept holds it as a part. -/

namespace Sys2Proof.Machine

/-! ### When a request is taken -/

/-- An ordinary request is taken and executed (R147 step 6, R149): the part has started, the request slot is
free, and there is room for a reply. -/
structure State.Accepts (s : State) : Prop where
  released : s.resetAsserted = false
  started : s.memStart = .complete
  slotFree : s.slot = none
  room : s.occupancy < 16

/-- The part takes events: the reset input is not asserted (R139). -/
abbrev State.Takes (s : State) : Prop := s.resetAsserted = false

/-- `s` with one message more at the tail of the outbound queue. -/
def State.answered (s : State) (kind tag : Byte) (payload : List Byte) : State :=
  s.setLink { s.link with queue := s.link.queue ++ [⟨kind, tag, payload⟩] }

/-- The reply that refuses a request of KIND `kind`: its KIND plus 0x80, the status byte alone (R150). -/
def State.refused (s : State) (kind tag : Byte) (st : Status) : State := s.answered (kind + 0x80#8) tag [st.code]

/-- The same with the KIND-dependent envelope: 0xFF and the KIND after the status for an unknown KIND (R150). -/
def State.answeredStatus (s : State) (kind tag : Byte) (st : Status) : State :=
  if kind ∈ requestKinds then s.refused kind tag st else s.answered 0xFF#8 tag [st.code, kind]

/-- The payload sizes of Table 11-4, for each KIND (R157). -/
def sizeRight (kind : Byte) (p : List Byte) : Bool :=
  if kind ∈ [0x01#8, 0x02#8, 0x03#8, 0x04#8, 0x06#8, 0x40#8, 0x41#8, 0x42#8] then decide (p.length = 0)
  else if kind ∈ [0x05#8, 0x11#8, 0x12#8, 0x20#8, 0x34#8] then decide (p.length = 1)
  else if kind ∈ [0x31#8, 0x32#8] then decide (p.length = 2)
  else if kind = 0x22#8 then decide (p.length = 5)
  else if kind = 0x23#8 then decide (p.length = 6)
  else if kind ∈ [0x10#8, 0x33#8] then decide (p.length = 9)
  else if kind = 0x18#8 then decide (p.length = 27)
  else if kind ∈ [0x21#8, 0x24#8] then decide (5 ≤ p.length ∧ p.length ≤ 1022)
  else match p with
    | [] => false
    | count :: _ => decide (p.length = 1 + 3 * count.toNat)

/-- The bytes of a request message: sync 0xA5, LENGTH, KIND, TAG, payload and CHECK (Table 11-1). -/
def requestMessage (kind tag : Byte) (p : List Byte) : List Byte :=
  0xA5#8 :: (envelope kind tag p ++ le16 (crc16 (envelope kind tag p)).toNat)

/-! ### Laws -/

/-- The DRAM is in its canonical form. -/
abbrev State.MemoryLaw (s : State) : Prop := Memory.wf s.mem = true

/-- What the memory start of a pin reset finds and keeps (R128, R140): no camera, composition, executing
request or scan is at work, and at most 13 BUSY replies are held. -/
structure State.Quiet (s : State) : Prop where
  held : s.link.queue.length ≤ 13
  cameras : ∀ i : Fin 4, s.cams[i].state = .off
  topIdle : s.top.state = .idle
  composerIdle : s.comp.state = .idle
  slotFree : s.slot = none
  noStop : s.stopOwed = none
  noVerify : s.banks.engine = none
  fillShown : s.out.source = none

/-- The outbound law of R151: the occupancy never exceeds 16. -/
structure State.QueueLaw (s : State) : Prop where
  occupancy : s.occupancy ≤ 16
  quiet : s.starting = true → s.Quiet

/-- Every gain of the staged and the active set lies in 128 to 512 (R76). -/
structure State.GainLaw (s : State) : Prop where
  staged : ∀ i : Fin 4, 128 ≤ s.staged.gains[i] ∧ s.staged.gains[i] ≤ 512
  active : ∀ i : Fin 4, 128 ≤ s.active.gains[i] ∧ s.active.gains[i] ≤ 512

/-- The verify queue holds the VERIFYING banks, each once, and the engine works on its head (R30, R31). -/
structure State.VerifyLaw (s : State) : Prop where
  once : s.banks.queue.Nodup
  verifying : ∀ b : Fin 8, b ∈ s.banks.queue ↔ (s.banks.dir[b].check?).isSome = true
  head : ∀ e, s.banks.engine = some e → s.banks.queue.head? = some e.bank

/-- Every bank that a height table lists is READY, and all of them have one digest (R36). -/
def tableReady (dir : Vector BankEntry 8) (t : Option (List TableEntry)) : Prop :=
  ∀ es, t = some es → ∃ d, ∀ e ∈ es, dir[e.bank] = .ready d

/-- The law of R36 for the staged and the active table, with the verify queue's law. -/
structure State.TableLaw (s : State) : Prop where
  verify : s.VerifyLaw
  staged : tableReady s.banks.dir s.staged.table
  active : tableReady s.banks.dir s.active.table

/-- One camera's ring holds at most one FILLING and at most one IN_USE slot (R60). -/
structure Camera.RingLaw (c : Camera) : Prop where
  filling : ∀ i j : Fin 4, c.slots[i].isFilling = true → c.slots[j].isFilling = true → i = j
  inUse : ∀ i j : Fin 4, c.slots[i].isInUse = true → c.slots[j].isInUse = true → i = j

/-- The frame rings' law of R60, with what keeps it: only a camera whose selection entry is available has an
IN_USE slot (R62), a point is armed only while a composition runs that no STOP has stopped, with its entry
PENDING (R74, R75), and an idle composer has only PENDING entries (R86). -/
structure State.RingLaw (s : State) : Prop where
  ring : ∀ i : Fin 4, s.cams[i].RingLaw
  used : ∀ i k : Fin 4, s.cams[i].slots[k].isInUse = true → ∃ a, s.comp.selection[i] = .available a
  armed : ∀ i : Fin 4, s.timer.armed[i] = true →
    s.comp.selection[i] = .pending ∧ s.comp.state ≠ .idle ∧ s.comp.state ≠ .abandoning
  idle : s.comp.state = .idle → ∀ i : Fin 4, s.comp.selection[i] = .pending

/-- A slot is COMPOSING. -/
def OutSlot.isComposing : OutSlot → Bool
  | .composing _ => true
  | _ => false

/-- The output slots' law of R115, with what keeps it: exactly the composing slot is COMPOSING, the composer
has one just when it is not IDLE (R84), and a composition wanted at a mark has a staged table (R135). -/
structure State.SlotLaw (s : State) : Prop where
  composing : ∀ k : Fin 3, s.out.slots[k].isComposing = true ↔ s.comp.slot = some k
  idle : s.comp.slot = none ↔ s.comp.state = .idle
  published : ∀ i j : Fin 3, s.out.slots[i].isPublished = true → s.out.slots[j].isPublished = true → i = j
  scanning : ∀ i j : Fin 3, s.out.slots[i].isScanning = true → s.out.slots[j].isScanning = true → i = j
  publishedIdle : ∀ k : Fin 3, s.out.slots[k].isPublished = true → s.comp.state = .idle
  staged : s.active.table.isSome = true → s.staged.table.isSome = true
  wanted : s.top.state = .run ∨ s.top.state = .shot → s.staged.table.isSome = true

/-- Treatment counts and frame records (R96, R103): the counts sum to the tiles issued, a tile is left to issue in
ISSUING and WAITING (R83, R94), DRAINING has issued all 384, and every record's counts sum to its tiles issued, which
are 384 when it is PUBLISHED. -/
structure State.CountLaw (s : State) : Prop where
  sum : s.comp.fresh + s.comp.held + s.comp.filled = s.comp.index
  bound : s.comp.index ≤ 384
  running : s.comp.state = .issuing ∨ s.comp.state = .waiting → s.comp.index < 384
  draining : s.comp.state = .draining → s.comp.index = 384
  records : ∀ r ∈ s.comp.history,
    r.fresh + r.held + r.filled = r.issued ∧ r.issued ≤ 384 ∧ (r.outcome = .published → r.issued = 384)
  history : s.comp.history.length ≤ 8

/-- A timing within the ranges of R69. -/
def Timing.law (t : Timing) : Prop := 16667 ≤ t.period ∧ t.period ≤ 100000 ∧ ∀ i : Fin 4, t.offsets[i] < t.period

/-- The cadence counter runs from 0 to period − 1, and every timing is in range (R68, R69). -/
structure State.CadenceLaw (s : State) : Prop where
  counter : s.timer.counter < s.timer.timing.period
  timing : s.timer.timing.law
  pending : ∀ n, s.timer.pendingTiming = some n → n.law

/-- A step that neither faults nor is refused: a safe step. -/
def State.steps (s : State) : Prop := ∃ t, step s = .next t

end Sys2Proof.Machine
end

