-- ==== Sys2Proof/Certificates/Slice0/Obligations.lean ====
section
/-! DEFINITION. The statements for the provers. Each docstring names the rule or section of the manual it
rests on; a statement that rests on a choice of the model says so. -/

open Sys2Proof Sys2Proof.Machine

/-! ### The queue of commands and the clock -/

/-- A step takes the command at the front of the queue and runs it with the queue's rest. The manual has events and
no queue for them: that commands wait in one queue, first in, first out, is the model's own choice (log 1). -/
def Obligations.StepRunsTheFrontCommand : Prop :=
  ∀ (c : Instr) (rest : List Instr) (s : State),
    s.pending = c :: rest → step s = exec c (s.setPending rest)

/-- With no command waiting one microsecond passes (log 1, the model's choice): the timebase adds 1, the
counter adds 1 or wraps at the period, running loss timers count down, and the events that this brings about are put
in the queue, whatever the free tie order is: the mark, the armed points, the expiries, the end of line n's time at
(n + 2) × L, and an underrun once the port has come to a pixel of a line still fetched that has not arrived (R47,
R67, R68, R74, R120, R121; the underrun's moment is exact to one microsecond, log 16). -/
def Obligations.EmptyQueueStepPassesOneMicrosecond : Prop :=
  ∀ s : State, s.pending = [] → s.Takes →
    ∃ (q : List Instr) (n : Nat),
      let c := if s.timer.timing.period ≤ s.timer.counter + 1 then 0 else s.timer.counter + 1
      let l := s.timer.timing.period / 800
      step s = .next ((((s.setCams (s.cams.map fun k => { k with loss := k.loss.map (· - 1) })).setTimer
        { s.timer with timebase := s.timer.timebase + 1#32, counter := c }).setTies n).setPending q) ∧
      (Instr.cadenceMark ∈ q ↔ c = 0) ∧
      (∀ i : Fin 4, Instr.selectionEvent i ∈ q ↔
        s.timer.armed[i] = true ∧ c ≠ 0 ∧ s.timer.timing.offsets[i] = c) ∧
      (∀ i : Fin 4, Instr.lossTimerExpiry i ∈ q ↔ s.cams[i].loss = some 1) ∧
      (0 < l →
        (Instr.lineTimeEnd ∈ q ↔ s.out.source ≠ none ∧ ∃ m < 768, c = (m + 2) * l) ∧
        (Instr.lineUnderrun ∈ q ↔ s.out.source ≠ none ∧ ∃ p ∈ s.out.places, p.line < 768 ∧ p.dropped = false ∧
          c < (p.line + 2) * l ∧ ∃ k < 512, (p.line + 1) * l + k * l / 512 ≤ c ∧ p.got.length < 3 * k + 3)) ∧
      (∀ e ∈ q, e = .cadenceMark ∨ (∃ i, e = .selectionEvent i) ∨ (∃ i, e = .lossTimerExpiry i) ∨
        e = .lineTimeEnd ∨ e = .lineUnderrun)

/-- While the reset input is asserted no event is taken, ATTN is inactive, the data-out line carries zeros and the
display port sends nothing; a burst already granted still completes, writes its bytes and no other, and frees the
port, and nothing else happens. Asserting the input abandons a select window in progress and leaves everything else
to the pin reset at its release (R139, R129, R155; that the clock stands still meanwhile is log 10, the model's
choice). -/
def Obligations.NothingIsTakenWhileResetIsAsserted : Prop :=
  (∀ (i : Instr) (s : State), s.resetAsserted = true → i ≠ .pinReset → i ≠ .resetInputAsserted →
    i ≠ .burstComplete → exec i s = .next s) ∧
  (∀ s : State, s.resetAsserted = true →
    (s.arb.port = none → exec .burstComplete s = .next s) ∧
    (∀ b, s.arb.port = some b → exec .burstComplete s = .next ((match b.data with
      | some bytes => s.setMem (Memory.writeRun s.mem b.addr bytes)
      | none => s).setArb { s.arb with port := none })) ∧
    (s.pending = [] → step s = .next s) ∧ s.attn = false ∧ (∀ i, s.dataOut i = 0#8) ∧
    (∀ n k, s.displayPixel n k = none) ∧ s.displayPort = []) ∧
  (∀ s : State, exec .resetInputAsserted s =
    .next ((s.setResetAsserted true).setLink { s.link with window := none }))

/-! ### The gate of a request -/

/-- What the link does with every request, of a known KIND or not, before its owner sees it. Before STARTED it is
answered BUSY, RESET included, or is a link error while 13 replies are held; at occupancy 16 it is a link error;
while the request slot is occupied it is answered BUSY, RESET excepted; an unknown KIND is answered UNKNOWN. Each
time nothing else changes (R140, R147 step 6, R149, R150). -/
def Obligations.EveryRequestPassesTheGateOfTheLink : Prop :=
  ∀ (i : Instr) (kind tag : Byte) (p : List Byte) (s : State),
    i.request? = some (kind, tag, p) → s.Takes →
    (s.memStart ≠ .complete →
      (s.link.queue.length < 13 → exec i s = .next (s.answeredStatus kind tag .busy)) ∧
      (13 ≤ s.link.queue.length →
        exec i s = .next (s.setLink { s.link with errors := s.link.errors + 1#16 }))) ∧
    (s.memStart = .complete →
      (16 ≤ s.occupancy → exec i s = .next (s.setLink { s.link with errors := s.link.errors + 1#16 })) ∧
      (s.occupancy < 16 → s.slot.isSome = true → kind ≠ 0x06#8 →
        exec i s = .next (s.answeredStatus kind tag .busy)) ∧
      (s.occupancy < 16 → s.slot = none → kind ∉ requestKinds → i = .unknownKind kind tag p →
        exec i s = .next (s.answered 0xFF#8 tag [0x03#8, kind])))

/-- A request of one of the 23 kinds whose payload has not the size of Table 11-4 is refused with LENGTH and
changes nothing else (R157). -/
def Obligations.WrongSizeIsRefusedWithLength : Prop :=
  ∀ (i : Instr) (kind tag : Byte) (p : List Byte) (s : State),
    i.request? = some (kind, tag, p) → kind ∈ requestKinds → sizeRight kind p = false → s.Accepts →
    exec i s = .next (s.refused kind tag .length)

/-! ### Select windows -/

/-- Decode of encode on the link: the message of a well-formed request, whatever bytes the host clocks after
its CHECK, makes its window take exactly that request once a head message read whole has left (R146, R147,
R148, Table 11-1). -/
def Obligations.RequestMessageIsTakenFromItsWindow : Prop :=
  ∀ (i : Instr) (kind tag : Byte) (p extra : List Byte) (w : Window) (s : State),
    i.request? = some (kind, tag, p) → i.wf = true → s.Takes → s.link.window = some w →
    exec (.selectWindowEnd (requestMessage kind tag p ++ extra)) s =
      exec i (s.setLink (closeWindow (requestMessage kind tag p ++ extra).length w s.link))

/-- A window without a message, with a bad sync, a bad LENGTH, a short message or a bad CHECK: nothing is
counted for the first, each of the others is one link error, and nothing is executed (R147 steps 1 to 5). -/
def Obligations.BadMessageIsOneLinkError : Prop :=
  ∀ (bs : List Byte) (w : Window) (s : State), s.Takes → s.link.window = some w →
    let t := s.setLink (closeWindow bs.length w s.link)
    let n := ofLe (slice bs 1 2)
    (bs.head? = none ∨ bs.head? = some 0x00#8 → exec (.selectWindowEnd bs) s = .next t) ∧
    ((∃ b, bs.head? = some b ∧ b ≠ 0x00#8 ∧ b ≠ 0xA5#8) ∨
      (bs.head? = some 0xA5#8 ∧
        (bs.length < 3 ∨ n < 2 ∨ 1026 < n ∨ bs.length < n + 5 ∨
          (crc16 (slice bs 1 (n + 2))).toNat ≠ ofLe (slice bs (n + 3) 2))) →
      exec (.selectWindowEnd bs) s = .next t.linkError)

/-- A window fixes what it sends at its start: the head message, or zeros while the memory start holds the
queue or when it is empty; a message that joins later does not enter it. The data-out line carries the message's
bytes of Table 11-1, sync, LENGTH, KIND, TAG, payload and CHECK, and zeros after the last (R146, R148, R140). -/
def Obligations.WindowStartFixesTheHeadMessage : Prop :=
  ∀ s : State, s.Takes → s.link.window = none →
    let t := s.setLink { s.link with window := some ⟨if s.memStart = .complete then s.link.queue.head? else none⟩ }
    exec .selectWindowStart s = .next t ∧
    (∀ (m : Message) (rest : List Message), s.memStart = .complete → s.link.queue = m :: rest →
      let body := le16 (m.payload.length + 2) ++ [m.kind, m.tag] ++ m.payload
      let bytes := [0x5A#8] ++ body ++ le16 (crc16 body).toNat
      ∀ i, t.dataOut i = if i < m.payload.length + 7 then byteAt bytes i else 0#8) ∧
    (s.memStart ≠ .complete ∨ s.link.queue = [] → ∀ i, t.dataOut i = 0#8) ∧
    (∀ (q : List Message) (i : Nat), (t.setLink { t.link with queue := q }).dataOut i = t.dataOut i)

/-- The head message leaves the queue when its window read it whole and stays when the window was shorter; a
window that sent zeros removes nothing (R146); here for windows that carry no message inbound (R147 step 1). ATTN is
active just while a message is queued and not held by the memory start, so it goes inactive with the last message
read (R153, R140). -/
def Obligations.WindowEndRemovesTheMessageReadWhole : Prop :=
  (∀ (m : Message) (rest : List Message) (zeros : List Byte) (s : State), s.Takes →
    zeros.head? = none ∨ zeros.head? = some 0x00#8 →
    (s.link.window = some ⟨some m⟩ → s.link.queue = m :: rest →
      m.bytes.length = m.payload.length + 7 ∧
      exec (.selectWindowEnd zeros) s = .next (s.setLink { s.link with
        window := none, queue := if m.payload.length + 7 ≤ zeros.length then rest else m :: rest })) ∧
    (s.link.window = some ⟨none⟩ →
      exec (.selectWindowEnd zeros) s = .next (s.setLink { s.link with window := none }))) ∧
  (∀ s : State, s.attn = true ↔ s.resetAsserted = false ∧ s.memStart = .complete ∧ s.link.queue ≠ [])

/-! ### Reports (Sections 9.4 and 5.9) -/

/-- IDENT reports the part code, the revision and the capacities of Table 9-3, in the layout of Table 11-5,
and changes nothing else (R143). -/
def Obligations.IdentReportsTheCapacities : Prop :=
  ∀ (tag : Byte) (s : State), s.Accepts →
    exec (.ident tag []) s = .next (s.answered 0x81#8 tag
      ([0#8] ++ le16 0x4160 ++ [1#8] ++ [4#8] ++ [4#8] ++ le16 1280 ++ le16 960 ++ [8#8] ++ [8#8] ++ le16 384 ++
        [3#8] ++ [8#8] ++ [16#8] ++ le16 1024 ++ le16 1018))

/-- STATUS reports the items of Table 9-4 as they stand, each at its place in Table 11-5, and clears the
missed-notice flag that it reports; nothing else changes (R144). -/
def Obligations.StatusReportsAndClearsTheMissedFlag : Prop :=
  ∀ (tag : Byte) (s : State), s.Accepts →
    ∃ d : List Byte,
      exec (.status tag []) s =
        .next ((s.setLink { s.link with missed := false }).answered 0x82#8 tag (0#8 :: d)) ∧
      d.length = 24 ∧ byteAt d 0 = s.top.state.code ∧ byteAt d 1 = s.comp.state.code ∧
      (∀ b : Fin 8, byteAt d (2 + b.val) = s.banks.dir[b].code) ∧
      byteAt d 10 = BitVec.ofNat 8 s.banks.queue.length ∧
      (s.active.pair = none → slice d 11 6 = List.replicate 6 0#8) ∧
      (∀ b, s.active.pair = some b → slice d 11 6 = [1#8] ++ leInt16 s.active.height ++
        [BitVec.ofNat 8 b.low.val, BitVec.ofNat 8 b.high.val, BitVec.ofNat 8 b.f]) ∧
      ofLe (slice d 17 2) = s.comp.late.toNat ∧ ofLe (slice d 19 2) = s.out.underruns.toNat ∧
      ofLe (slice d 21 2) = s.link.errors.toNat ∧ byteAt d 23 = if s.link.missed then 1#8 else 0#8

/-- SNAPSHOT reports the items of Table 9-5 of the one state it is taken in, each at its place in Tables 11-5
and 11-6, with zeros for the fields absent in a slot's state, and changes nothing else (R145, R59). -/
def Obligations.SnapshotReportsOneState : Prop :=
  ∀ (tag : Byte) (s : State), s.Accepts →
    ∃ d : List Byte,
      exec (.snapshot tag []) s = .next (s.answered 0x83#8 tag (0#8 :: d)) ∧ d.length = 264 ∧
      ofLe (slice d 0 4) = s.timer.timebase.toNat ∧ ofLe (slice d 4 4) = s.timer.counter % 2 ^ 32 ∧
      byteAt d 8 = s.top.state.code ∧ byteAt d 9 = s.comp.state.code ∧
      ofLe (slice d 10 2) = s.comp.index % 2 ^ 16 ∧
      ∀ i : Fin 4,
        byteAt d (12 + 63 * i.val) = s.cams[i].state.code ∧
        byteAt d (13 + 63 * i.val) = BitVec.ofNat 8 s.cams[i].good ∧
        ofLe (slice d (14 + 63 * i.val) 2) = s.cams[i].damage.toNat ∧
        ofLe (slice d (16 + 63 * i.val) 2) = s.cams[i].skipped.toNat ∧
        byteAt d (18 + 63 * i.val) = damageCode s.cams[i].lastDamage ∧
        ∀ k : Fin 4, slice d (19 + 63 * i.val + 14 * k.val) 14 = match s.cams[i].slots[k] with
          | .empty => List.replicate 14 0#8
          | .filling n a l => [1#8] ++ le16 n.toNat ++ le32 a.toNat ++ List.replicate 4 0#8 ++ le16 l ++ [0#8]
          | .ready n a b l u =>
            [2#8] ++ le16 n.toNat ++ le32 a.toNat ++ le32 b.toNat ++ le16 l ++ [if u then 1#8 else 0#8]
          | .inUse n a b l => [3#8] ++ le16 n.toNat ++ le32 a.toNat ++ le32 b.toNat ++ le16 l ++ [1#8]

/-- HISTORY reports the number of records and each record, newest first, in the 56 bytes of Table 11-7, and
removes and changes nothing (R104). -/
def Obligations.HistoryReportsTheRecordsNewestFirst : Prop :=
  ∀ (tag : Byte) (s : State), s.Accepts →
    ∃ d : List Byte,
      exec (.history tag []) s = .next (s.answered 0x84#8 tag (0#8 :: d)) ∧
      d.length = 1 + 56 * s.comp.history.length ∧ byteAt d 0 = BitVec.ofNat 8 s.comp.history.length ∧
      ∀ (n : Nat) (r : FrameRecord), s.comp.history[n]? = some r →
        let b := slice d (1 + 56 * n) 56
        ofLe (slice b 0 2) = r.seq.toNat ∧ ofLe (slice b 2 4) = r.markTime.toNat ∧
        byteAt b 6 = r.outcome.code ∧ ofLe (slice b 7 2) = r.issued % 2 ^ 16 ∧
        (∀ i : Fin 4, slice b (9 + 7 * i.val) 7 = [r.answers[i].code] ++ match r.answers[i] with
          | .available a => le16 a.frame.toNat ++ le32 a.age.toNat
          | _ => List.replicate 6 0#8) ∧
        (∀ i : Fin 4, ofLe (slice b (37 + 2 * i.val) 2) = r.gains[i] % 2 ^ 16) ∧
        slice b 45 2 = leInt16 r.height ∧ byteAt b 47 = BitVec.ofNat 8 r.pair.low.val ∧
        byteAt b 48 = BitVec.ofNat 8 r.pair.high.val ∧ byteAt b 49 = BitVec.ofNat 8 r.pair.f ∧
        ofLe (slice b 50 2) = r.fresh % 2 ^ 16 ∧ ofLe (slice b 52 2) = r.held % 2 ^ 16 ∧
        ofLe (slice b 54 2) = r.filled % 2 ^ 16

/-! ### Staging and link settings (Sections 4.2, 4.6 and 10.3) -/

/-- NOTICE_MASK: a set with bit 6 or bit 7 is refused with RANGE; any other replaces the whole mask, which
the OK reply carries; queued notices stay queued; both resets enable every kind (R154). A handed notice is
discarded when its kind is masked, dropped with the missed-notice flag set at 14 or more queued messages, else
queued at the tail with TAG 0 (R152). -/
def Obligations.NoticeMaskDecidesWhichNoticesAreQueued : Prop :=
  ∀ (tag m : Byte) (k : NoticeKind) (pl : List Byte) (s : State),
    (s.Accepts → m.toNat ≤ 63 → exec (.noticeMask tag [m]) s =
      .next ((s.setLink { s.link with mask := m.setWidth 6 }).answered 0x85#8 tag [0#8, m])) ∧
    (s.Accepts → 63 < m.toNat → exec (.noticeMask tag [m]) s = .next (s.refused 0x05#8 tag .range)) ∧
    (pinReset s).link.mask = 0x3F#6 ∧ (softReset s).link.mask = 0x3F#6 ∧
    (s.link.mask.getLsbD k.bit = false → s.notice k pl = s) ∧
    (s.link.mask.getLsbD k.bit = true → 14 ≤ s.link.queue.length →
      s.notice k pl = s.setLink { s.link with missed := true }) ∧
    (s.link.mask.getLsbD k.bit = true → s.link.queue.length < 14 →
      s.notice k pl = s.setLink { s.link with queue := s.link.queue ++ [⟨k.code, 0#8, pl⟩] })

/-- HEIGHT is never refused for its value: it stages the value clamped to −250 to +250, and the OK reply
carries the staged height (R78). DOORS stages both flags, or with a flag byte above 1 is refused with RANGE and
leaves both as they were; EXCLUDE stages the mask whole, or with a value above 15 is refused with RANGE (R79,
R80). Nothing else changes. -/
def Obligations.HeightDoorsAndExcludeAreStaged : Prop :=
  ∀ (tag a b : Byte) (s : State), s.Accepts →
    let v := (BitVec.ofNat 16 (a.toNat + 256 * b.toNat)).toInt
    let h : Int := if v < -250 then -250 else if 250 < v then 250 else v
    (exec (.height tag [a, b]) s =
      .next ((s.setStaged { s.staged with height := h }).answered 0xB1#8 tag ([0#8] ++ leInt16 h))) ∧
    (exec (.doors tag [a, b]) s = .next
      (if 1 < a.toNat ∨ 1 < b.toNat then s.refused 0x32#8 tag .range
       else (s.setStaged { s.staged with leftOpen := decide (a = 1#8), rightOpen := decide (b = 1#8) }).answered
         0xB2#8 tag [0#8])) ∧
    (exec (.exclude tag [a]) s = .next
      (if 15 < a.toNat then s.refused 0x34#8 tag .range
       else (s.setStaged { s.staged with exclude := a.setWidth 4 }).answered 0xB4#8 tag [0#8]))

/-- GAINS stages the four gains clamped to 128–512 and the mode in one step, and the OK reply carries them; a
mode byte above 1 refuses the request with RANGE and writes nothing (R81). -/
def Obligations.GainsStagesClampedGains : Prop :=
  ∀ (tag a0 a1 b0 b1 c0 c1 d0 d1 m : Byte) (s : State), s.Accepts →
    let g : Vector Nat 4 := #v[a0.toNat + 256 * a1.toNat, b0.toNat + 256 * b1.toNat,
      c0.toNat + 256 * c1.toNat, d0.toNat + 256 * d1.toNat].map fun n => max 128 (min 512 n)
    (1 < m.toNat → exec (.gains tag [a0, a1, b0, b1, c0, c1, d0, d1, m]) s = .next (s.refused 0x33#8 tag .range)) ∧
    (m.toNat ≤ 1 → exec (.gains tag [a0, a1, b0, b1, c0, c1, d0, d1, m]) s =
      .next ((s.setStaged { s.staged with gains := g, mode := if m = 0#8 then .auto else .manual }).answered
        0xB3#8 tag ([0#8] ++ le16 g[0] ++ le16 g[1] ++ le16 g[2] ++ le16 g[3] ++ [m])))

/-- OUT_SETUP: refused with STATE outside IDLE, then with RANGE for a period, an offset or a hold limit out of
range; accepted, its timing becomes the pending timing and its colours and hold limit are staged, and the
timing in force stands (R69). -/
def Obligations.OutSetupWaitsForTheNextMark : Prop :=
  ∀ (tag : Byte) (p : List Byte) (s : State), s.Accepts → p.length = 27 →
    let period := ofLe (slice p 0 4)
    let offs : Vector Nat 4 := #v[ofLe (slice p 4 4), ofLe (slice p 8 4), ofLe (slice p 12 4), ofLe (slice p 16 4)]
    let limit := (byteAt p 26).toNat
    let inRange := 16667 ≤ period ∧ period ≤ 100000 ∧ (∀ i : Fin 4, offs[i] < period) ∧ limit ≤ 60
    (s.top.state ≠ .idle → exec (.outSetup tag p) s = .next (s.refused 0x18#8 tag .state)) ∧
    (s.top.state = .idle → ¬ inRange → exec (.outSetup tag p) s = .next (s.refused 0x18#8 tag .range)) ∧
    (s.top.state = .idle → inRange → exec (.outSetup tag p) s =
      .next (((s.setTimer { s.timer with pendingTiming := some ⟨period, offs⟩ }).setStaged
        { s.staged with
          fill := ⟨byteAt p 20, byteAt p 21, byteAt p 22⟩
          void := ⟨byteAt p 23, byteAt p 24, byteAt p 25⟩
          holdLimit := limit }).answered 0x98#8 tag [0#8]))

/-- The form checks of HEIGHT_TABLE: a payload that does not match its entry count is refused with LENGTH, a
count of 0 or above 8, a key outside −250 to +250 or a bank number above 7 with RANGE, in every top state,
and the staged table stays as it was (R38). -/
def Obligations.HeightTableFormIsCheckedFirst : Prop :=
  ∀ (tag : Byte) (p : List Byte) (s : State), s.Accepts →
    let n := (byteAt p 0).toNat
    let key := fun k : Nat => (BitVec.ofNat 16 (ofLe (slice p (1 + 3 * k) 2))).toInt
    (p = [] ∨ p.length ≠ 1 + 3 * n → exec (.heightTable tag p) s = .next (s.refused 0x30#8 tag .length)) ∧
    (p ≠ [] → p.length = 1 + 3 * n →
      (n = 0 ∨ 8 < n ∨ ∃ k, k < n ∧ (key k < -250 ∨ 250 < key k ∨ 7 < (byteAt p (3 + 3 * k)).toNat)) →
      exec (.heightTable tag p) s = .next (s.refused 0x30#8 tag .range))

/-- The table checks of HEIGHT_TABLE: with keys strictly ascending, banks distinct, every listed bank READY
and their digests equal, the list replaces the staged table whole; any one failure refuses it with TABLE;
the active table is not touched (R39). `es` is the list that the payload spells. -/
def Obligations.HeightTableIsStagedExactlyWhenValid : Prop :=
  ∀ (tag : Byte) (es : List TableEntry) (s : State), s.Accepts → 1 ≤ es.length → es.length ≤ 8 →
    (∀ e ∈ es, -250 ≤ e.key ∧ e.key ≤ 250) →
    let p := BitVec.ofNat 8 es.length :: es.flatMap fun e => leInt16 e.key ++ [BitVec.ofNat 8 e.bank.val]
    let valid := (es.map TableEntry.key).Pairwise (· < ·) ∧ (es.map TableEntry.bank).Nodup ∧
      ∃ d, ∀ e ∈ es, s.banks.dir[e.bank] = .ready d
    (valid → exec (.heightTable tag p) s =
      .next ((s.setStaged { s.staged with table := some es }).answered 0xB0#8 tag [0#8])) ∧
    (¬ valid → exec (.heightTable tag p) s = .next (s.refused 0x30#8 tag .table))

/-! ### Cameras: requests (Sections 3.1 and 3.2) -/

/-- The check order of CAM_SETUP: a camera above 3 is refused with RANGE, a camera that is not OFF with
STATE, a field out of its range with RANGE; accepted, all five fields are replaced at once (R44). -/
def Obligations.CamSetupReplacesTheRecordOfAnOffCamera : Prop :=
  ∀ (tag c w0 w1 h0 h1 acq l0 l1 st : Byte) (s : State), s.Accepts →
    let r : Setup := ⟨w0.toNat + 256 * w1.toNat, h0.toNat + 256 * h1.toNat, acq.toNat,
      l0.toNat + 256 * l1.toNat, st.toNat⟩
    let inRange := (320 ≤ r.width ∧ r.width ≤ 1280 ∧ r.width % 16 = 0) ∧
      (240 ≤ r.height ∧ r.height ≤ 960 ∧ r.height % 8 = 0) ∧ (1 ≤ r.acquire ∧ r.acquire ≤ 8) ∧
      (20 ≤ r.lossMs ∧ r.lossMs ≤ 1000) ∧ (10 ≤ r.staleMs ∧ r.staleMs ≤ 250)
    let p := [c, w0, w1, h0, h1, acq, l0, l1, st]
    (3 < c.toNat → exec (.camSetup tag p) s = .next (s.refused 0x10#8 tag .range)) ∧
    (∀ i : Fin 4, c.toNat = i.val →
      (s.cams[i].state ≠ .off → exec (.camSetup tag p) s = .next (s.refused 0x10#8 tag .state)) ∧
      (s.cams[i].state = .off → ¬ inRange → exec (.camSetup tag p) s = .next (s.refused 0x10#8 tag .range)) ∧
      (s.cams[i].state = .off → inRange → exec (.camSetup tag p) s =
        .next ((s.setCam i { s.cams[i] with setup := r }).answered 0x90#8 tag [0#8])))

/-- CAM_ON and CAM_OFF: a camera above 3 is refused with RANGE. CAM_ON of a camera that is not OFF is refused with
STATE; an OFF camera becomes ACQUIRING with the good count and the frame number counter 0 and the loss timer
running its full length (R45). CAM_OFF of an OFF camera changes nothing; any other becomes OFF with its timer
stopped and the good count 0, and an IN_USE slot sets the discard mark (R46). Both clear the damage mark and leave
only an IN_USE slot standing; pending lines and the counts stay. -/
def Obligations.CamOnAndCamOffKeepOnlyTheSlotInUse : Prop :=
  ∀ (tag c : Byte) (s : State), s.Accepts →
    (3 < c.toNat → exec (.camOn tag [c]) s = .next (s.refused 0x11#8 tag .range) ∧
      exec (.camOff tag [c]) s = .next (s.refused 0x12#8 tag .range)) ∧
    (∀ i : Fin 4, c.toNat = i.val → ∃ slots : Vector RingSlot 4,
      (∀ k : Fin 4, slots[k] = if s.cams[i].slots[k].isInUse then s.cams[i].slots[k] else .empty) ∧
      (s.cams[i].state ≠ .off → exec (.camOn tag [c]) s = .next (s.refused 0x11#8 tag .state)) ∧
      (s.cams[i].state = .off →
        exec (.camOn tag [c]) s = .next ((s.setCam i
          { s.cams[i] with
            state := .acquiring, slots := slots, good := 0, frameCounter := 0#16, mark := none,
            loss := some (1000 * s.cams[i].setup.lossMs) }).answered 0x91#8 tag [0#8])) ∧
      (s.cams[i].state = .off → exec (.camOff tag [c]) s = .next (s.answered 0x92#8 tag [0#8])) ∧
      (s.cams[i].state ≠ .off → ∃ discard : Bool,
        (discard = true ↔ s.cams[i].discard = true ∨ ∃ k : Fin 4, s.cams[i].slots[k].isInUse = true) ∧
        exec (.camOff tag [c]) s = .next ((s.setCam i
          { s.cams[i] with
            state := .off, slots := slots, good := 0, mark := none, loss := none,
            discard := discard }).answered 0x92#8 tag [0#8])))

/-! ### Banks and the body plane (Sections 2.3, 2.4 and 7.6) -/

/-- BANK_OPEN: a bank number above 7 is refused with RANGE, a VERIFYING or listed bank with BANK_STATE; any
other becomes LOADING at once, without a digest, its fill takes the request slot and is offered to the arbiter; the
reply is owed (R25, R37). -/
def Obligations.BankOpenStartsAFill : Prop :=
  ∀ (tag bank : Byte) (s : State), s.Accepts →
    (7 < bank.toNat → exec (.bankOpen tag [bank]) s = .next (s.refused 0x20#8 tag .range)) ∧
    (∀ b : Fin 8, bank.toNat = b.val →
      let inUse := (∃ es, s.staged.table = some es ∧ ∃ e ∈ es, e.bank = b) ∨
        (∃ es, s.active.table = some es ∧ ∃ e ∈ es, e.bank = b)
      ((∃ v, s.banks.dir[b] = .verifying v) ∨ inUse →
        exec (.bankOpen tag [bank]) s = .next (s.refused 0x20#8 tag .bankState)) ∧
      ((∀ v, s.banks.dir[b] ≠ .verifying v) → ¬ inUse →
        exec (.bankOpen tag [bank]) s = .next (arbitrate ((s.setBanks
          { s.banks with dir := s.banks.dir.set b .loading }).setSlot
            (some ⟨0x20#8, tag, .bankFill b, 0, []⟩)))))

/-- BANK_WRITE and BANK_READ: a bank above 7, a section above 5, a read length of 0 or above 1,018, or bytes past
the section are refused with RANGE, then the bank's state with BANK_STATE: a write needs LOADING, a read LOADING,
READY or FAULTY. Accepted, the request takes the request slot and its bursts are offered to the arbiter; no bank and
no byte of DRAM has changed yet (R24, R27, R29). -/
def Obligations.BankWriteAndReadTakeTheRequestSlot : Prop :=
  ∀ (tag bank sect o0 o1 l0 l1 : Byte) (data : List Byte) (s : State), s.Accepts →
    let off := o0.toNat + 256 * o1.toNat
    let len := l0.toNat + 256 * l1.toNat
    let pw := [bank, sect, o0, o1] ++ data
    let pr := [bank, sect, o0, o1, l0, l1]
    (1 ≤ data.length → data.length ≤ 1018 →
      (7 < bank.toNat ∨ 5 < sect.toNat ∨ sectionSize sect.toNat < off + data.length →
        exec (.bankWrite tag pw) s = .next (s.refused 0x21#8 tag .range)) ∧
      (∀ (b : Fin 8) (c : Fin 6), bank.toNat = b.val → sect.toNat = c.val → off + data.length ≤ sectionSize c.val →
        (s.banks.dir[b] ≠ .loading → exec (.bankWrite tag pw) s = .next (s.refused 0x21#8 tag .bankState)) ∧
        (s.banks.dir[b] = .loading → exec (.bankWrite tag pw) s =
          .next (arbitrate (s.setSlot (some ⟨0x21#8, tag, .bankWrite b c off data, 0, []⟩)))))) ∧
    (7 < bank.toNat ∨ 5 < sect.toNat ∨ len = 0 ∨ 1018 < len ∨ sectionSize sect.toNat < off + len →
      exec (.bankRead tag pr) s = .next (s.refused 0x23#8 tag .range)) ∧
    (∀ (b : Fin 8) (c : Fin 6), bank.toNat = b.val → sect.toNat = c.val → 1 ≤ len → len ≤ 1018 →
      off + len ≤ sectionSize c.val →
      (s.banks.dir[b] = .empty ∨ (∃ v, s.banks.dir[b] = .verifying v) →
        exec (.bankRead tag pr) s = .next (s.refused 0x23#8 tag .bankState)) ∧
      (s.banks.dir[b] = .loading ∨ s.banks.dir[b] = .faulty ∨ (∃ d, s.banks.dir[b] = .ready d) →
        exec (.bankRead tag pr) s =
          .next (arbitrate (s.setSlot (some ⟨0x23#8, tag, .bankRead b c off len, 0, []⟩)))))

/-- BANK_CLOSE: a bank above 7 is refused with RANGE, a bank that is not LOADING with BANK_STATE; accepted, the
bank becomes VERIFYING with its check value, joins the tail of the verify queue, an idle engine takes the queue's
head at once, and the reply ACCEPTED is queued (R28, R31). -/
def Obligations.BankCloseQueuesTheVerification : Prop :=
  ∀ (tag bank c0 c1 c2 c3 : Byte) (s : State), s.Accepts →
    let check := BitVec.ofNat 32 (ofLe [c0, c1, c2, c3])
    let p := [bank, c0, c1, c2, c3]
    (7 < bank.toNat → exec (.bankClose tag p) s = .next (s.refused 0x22#8 tag .range)) ∧
    (∀ b : Fin 8, bank.toNat = b.val →
      (s.banks.dir[b] ≠ .loading → exec (.bankClose tag p) s = .next (s.refused 0x22#8 tag .bankState)) ∧
      (s.banks.dir[b] = .loading →
        let engine := match s.banks.engine with
          | some e => some e
          | none => (s.banks.queue ++ [b]).head?.map fun k => (⟨k, []⟩ : Engine)
        exec (.bankClose tag p) s = .next (arbitrate ((s.setBanks
          ⟨s.banks.dir.set b (.verifying check), s.banks.queue ++ [b], engine⟩).answered 0xA2#8 tag [1#8]))))

/-- BODY_WRITE: refused with STATE in RUN and SHOT, then with RANGE for a tile above 383 or data past the tile;
in IDLE and FROZEN the data takes the request slot and is offered to the arbiter, and no byte of DRAM has changed yet
(R125). -/
def Obligations.BodyWriteTakesTheRequestSlot : Prop :=
  ∀ (tag t0 t1 o0 o1 : Byte) (data : List Byte) (s : State), s.Accepts → 1 ≤ data.length → data.length ≤ 1018 →
    let tile := t0.toNat + 256 * t1.toNat
    let off := o0.toNat + 256 * o1.toNat
    let p := [t0, t1, o0, o1] ++ data
    (s.top.state = .run ∨ s.top.state = .shot → exec (.bodyWrite tag p) s = .next (s.refused 0x24#8 tag .state)) ∧
    (s.top.state = .idle ∨ s.top.state = .frozen →
      (383 < tile ∨ 3072 < off + data.length → exec (.bodyWrite tag p) s = .next (s.refused 0x24#8 tag .range)) ∧
      (∀ t : Fin 384, tile = t.val → off + data.length ≤ 3072 → exec (.bodyWrite tag p) s =
        .next (arbitrate (s.setSlot (some ⟨0x24#8, tag, .bodyWrite t off data, 0, []⟩)))))

/-- A burst of the executing request's job lands, and a read's bytes join those read before. After the last one the
request slot is free and the owed OK reply is queued, with the bytes read when it is a read; before it the job has
moved on by the burst. The freed port makes its next grant; nothing else changes (R26, R27, R29, R125, R149). -/
def Obligations.LastJobBurstQueuesTheOwedReply : Prop :=
  ∀ (j : Job) (b : Burst) (s : State), s.Takes → s.memStart = .complete → s.slot = some j →
    s.arb.port = some b → b.client = .job → b.wanted = true →
    let got := j.got ++ match b.data with
      | some _ => []
      | none => Memory.readRun s.mem b.addr b.len
    (j.work.run.len ≤ j.moved + b.len → exec .burstComplete s =
      .next (arbitrate (((landBurst b s).setSlot none).answered (replyKind j.kind) j.tag (0#8 :: got)))) ∧
    (j.moved + b.len < j.work.run.len → exec .burstComplete s =
      .next (arbitrate ((landBurst b s).setSlot (some { j with moved := j.moved + b.len, got := got }))))

/-- A burst of a verification brings its bytes. The last one makes its bank READY with the CRC-32 of its section 5
when the CRC-32 of the whole bank is the check value, every point of sections 0 to 3 is in range and all 384 tile
records are well formed; otherwise FAULTY, for the first failure of CHECK, POINT_RANGE and TILE_RECORD in this order.
The bank leaves the head of the queue, the engine takes the next head, and a BANK_RESULT notice names the bank, the
outcome and the digest or the reason (R35). The forms of a tile record: VOID, SINGLE of a camera 0 to 3, BLEND of the
two cameras of a zone 0 to 3 in either order, BODY; no other (R34, R158). -/
def Obligations.VerificationEndsReadyOrFaulty : Prop :=
  (∀ (e : Engine) (b : Burst) (check : Word) (rest : List (Fin 8)) (s : State),
    s.Takes → s.memStart = .complete → s.arb.port = some b → b.client = .verify → b.wanted = true → b.data = none →
    s.banks.engine = some e → s.banks.queue = e.bank :: rest → s.banks.dir[e.bank] = .verifying check →
    let bytes := e.bytes ++ Memory.readRun s.mem b.addr b.len
    let pointsIn := ∀ k < 25220, ofLe (slice bytes (4 * k) 2) = 65535 ∨
      ofLe (slice bytes (4 * k) 2) ≤ 20464 ∧ ofLe (slice bytes (4 * k + 2) 2) ≤ 15344
    let tilesFormed := ∀ t < 384, (tileRecordOf (slice bytes (107185 + 4 * t) 4)).isSome = true
    let d := crc32 (slice bytes 107185 1536)
    (e.bytes.length + b.len < 108721 → exec .burstComplete s =
      .next (arbitrate ((landBurst b s).setBanks { s.banks with engine := some ⟨e.bank, bytes⟩ }))) ∧
    (e.bytes.length + b.len = 108721 → ∃ (v : BankEntry) (result : List Byte),
      (crc32 bytes ≠ check → v = .faulty ∧ result = [4#8, 1#8, 0#8, 0#8, 0#8]) ∧
      (crc32 bytes = check → ¬ pointsIn → v = .faulty ∧ result = [4#8, 2#8, 0#8, 0#8, 0#8]) ∧
      (crc32 bytes = check → pointsIn → ¬ tilesFormed → v = .faulty ∧ result = [4#8, 3#8, 0#8, 0#8, 0#8]) ∧
      (crc32 bytes = check → pointsIn → tilesFormed → v = .ready d ∧ result = [3#8] ++ le32 d.toNat) ∧
      exec .burstComplete s = .next (arbitrate (((landBurst b s).setBanks ⟨s.banks.dir.set e.bank v, rest,
        rest.head?.map fun k => ⟨k, []⟩⟩).notice .bankResult (BitVec.ofNat 8 e.bank.val :: result))))) ∧
  (∀ (kind a b z : Byte) (r : TileRecord), tileRecordOf [kind, a, b, z] = some r ↔
    (kind = 0#8 ∧ r = .void) ∨ (kind = 1#8 ∧ ∃ p : Fin 4, a.toNat = p.val ∧ r = .single p) ∨
    (kind = 2#8 ∧ ∃ p q y : Fin 4, a.toNat = p.val ∧ b.toNat = q.val ∧ z.toNat = y.val ∧
      ((p = y ∧ q = y + 1) ∨ (p = y + 1 ∧ q = y)) ∧ r = .blend p q y) ∨
    (kind = 3#8 ∧ r = .body))

/-! ### Top states (Section 9.1) -/

/-- START is refused with STATE in RUN and SHOT, SINGLE in RUN; in IDLE and FROZEN both are refused with TABLE
when no table is staged or active. Accepted there, the top state becomes RUN, or SHOT with a shot pending, the
repeat flag is clear and the fresh-start flag set. SINGLE in SHOT is always OK: it sets the repeat flag while the
shot's composition runs and changes nothing while the shot is pending (R135, R136). -/
def Obligations.StartAndSingleLeaveIdleOrFrozen : Prop :=
  ∀ (tag : Byte) (s : State), s.Accepts →
    (s.top.state = .run →
      exec (.start tag []) s = .next (s.refused 0x40#8 tag .state) ∧
      exec (.single tag []) s = .next (s.refused 0x42#8 tag .state)) ∧
    (s.top.state = .shot →
      exec (.start tag []) s = .next (s.refused 0x40#8 tag .state) ∧
      exec (.single tag []) s = .next
        ((if s.top.shotPending then s else s.setTop { s.top with repeatShot := true }).answered 0xC2#8 tag [0#8])) ∧
    (s.top.state = .idle ∨ s.top.state = .frozen →
      (s.staged.table = none → s.active.table = none →
        exec (.start tag []) s = .next (s.refused 0x40#8 tag .table) ∧
        exec (.single tag []) s = .next (s.refused 0x42#8 tag .table)) ∧
      (s.staged.table ≠ none ∨ s.active.table ≠ none →
        exec (.start tag []) s = .next (((s.setTop ⟨.run, false, false⟩).setComp
          { s.comp with freshStart := true }).answered 0xC0#8 tag [0#8]) ∧
        exec (.single tag []) s = .next (((s.setTop ⟨.shot, true, false⟩).setComp
          { s.comp with freshStart := true }).answered 0xC2#8 tag [0#8])))

/-- STOP: in IDLE it changes nothing; elsewhere the top state becomes IDLE, both flags and the fresh-start flag
are cleared, a PUBLISHED slot becomes FREE and the blank flag is set. With the composer IDLE or ABANDONING the
reply is queued at once; with tiles in flight the reply is owed and the composer is ABANDONING, its armed points
cancelled as NOT_REACHED, and the data of a tile-map read on the port will be discarded (R137, R101, R118, R75,
R129). -/
def Obligations.StopEndsOrAbandonsTheComposition : Prop :=
  ∀ (tag : Byte) (s : State), s.Accepts →
    (s.top.state = .idle → exec (.stop tag []) s = .next (s.answered 0xC1#8 tag [0#8])) ∧
    (s.top.state ≠ .idle →
      let o : Output := { s.out with
        blank := true
        slots := Vector.ofFn fun k => if s.out.slots[k].isPublished then .free else s.out.slots[k] }
      (s.comp.state = .idle ∨ s.comp.state = .abandoning → exec (.stop tag []) s =
        .next ((((s.setTop ⟨.idle, false, false⟩).setComp { s.comp with freshStart := false }).setOut o).answered
          0xC1#8 tag [0#8])) ∧
      (s.comp.state ≠ .idle → s.comp.state ≠ .abandoning → s.comp.empty = false →
        let sel : Vector Selection 4 := Vector.ofFn fun i =>
          if s.timer.armed[i] then .unavailable .notReached else s.comp.selection[i]
        let arb := match s.arb.port with
          | some ⟨.tileMap m, a, n, d, _⟩ => { s.arb with port := some ⟨.tileMap m, a, n, d, false⟩ }
          | _ => s.arb
        exec (.stop tag []) s = .next ((((((s.setTop ⟨.idle, false, false⟩).setComp
          { s.comp with freshStart := false, state := .abandoning, decided := none, selection := sel }).setOut
            o).setStopOwed (some tag)).setTimer
              { s.timer with armed := Vector.replicate 4 false }).setArb arb)))

/-- The end of an abandon, at the STOP itself when no tile is in flight, else at the last STORE burst of the last
tile in flight: the composing slot becomes FREE, each selected camera releases its IN_USE slot (to READY with its used
flag set, or to EMPTY when the camera is OFF or its discard mark set, which is cleared), an ABANDONED record enters
the history, the zone statistics are zero, the coverage reference stays, the composer is IDLE with every entry
PENDING, and the STOP is answered OK. Nothing else changes beside the grant at the burst (R102, R103, R63, R107). -/
def Obligations.AbandonWithoutTilesEndsAtTheStop : Prop :=
  ∀ (k : Fin 3) (s : State), s.comp.slot = some k →
    let released := fun c : Camera => { c with
      discard := false
      slots := Vector.ofFn fun j => match c.slots[j] with
        | .inUse n a b l => if c.state = .off ∨ c.discard = true then .empty else .ready n a b l true
        | x => x }
    let cams : Vector Selection 4 → Vector Camera 4 := fun sel => Vector.ofFn fun i => match sel[i] with
      | .available _ => released s.cams[i]
      | _ => s.cams[i]
    let ended : Vector Selection 4 → Composer := fun sel => { s.comp with
      state := .idle, slot := none, hold := none, selection := Vector.replicate 4 .pending
      history := ((⟨s.comp.seq, s.comp.markTime, .abandoned, s.comp.index, sel, s.active.gains, s.active.height,
        s.active.pair.getD ⟨0, 0, 0⟩, s.comp.fresh, s.comp.held, s.comp.filled⟩ : FrameRecord) :: s.comp.history).take 8 }
    (∀ tag : Byte, s.Accepts → s.top.state ≠ .idle → s.comp.state ≠ .idle → s.comp.state ≠ .abandoning →
      s.comp.empty = true →
      let sel : Vector Selection 4 := Vector.ofFn fun i =>
        if s.timer.armed[i] then .unavailable .notReached else s.comp.selection[i]
      exec (.stop tag []) s = .next { s with
        top := ⟨.idle, false, false⟩
        cams := cams sel
        comp := { ended sel with decided := none, freshStart := false }
        timer := { s.timer with armed := Vector.replicate 4 false }
        out := { s.out with
          blank := true
          slots := Vector.ofFn fun j => if j = k ∨ s.out.slots[j].isPublished = true then .free else s.out.slots[j] }
        zones := Vector.replicate 4 ⟨0, 0, 0⟩
        arb := match s.arb.port with
          | some ⟨.tileMap m, a, n, d, _⟩ => { s.arb with port := some ⟨.tileMap m, a, n, d, false⟩ }
          | _ => s.arb
        link := { s.link with queue := s.link.queue ++ [⟨0xC1#8, tag, [0#8]⟩] }
        stopOwed := none }) ∧
    (∀ (b : Burst) (st : StoreStage), s.Takes → s.memStart = .complete → s.arb.port = some b → b.client = .store →
      b.wanted = true → s.comp.state = .abandoning → s.comp.fetch = none → s.comp.sample = none →
      s.comp.store = some st → 3072 ≤ st.written + b.len →
      exec .burstComplete s = .next (arbitrate { landBurst b s with
        cams := cams s.comp.selection
        comp := { ended s.comp.selection with store := none }
        out := { s.out with slots := s.out.slots.set k .free }
        zones := Vector.replicate 4 ⟨0, 0, 0⟩
        link := match s.stopOwed with
          | some tag => { s.link with queue := s.link.queue ++ [⟨0xC1#8, tag, [0#8]⟩] }
          | none => s.link
        stopOwed := none }))

/-! ### Camera events (Sections 3.2 to 3.4) -/

/-- FRAME_START at a camera that is not OFF: a FILLING frame is closed as damaged with its mark, or INTERRUPTED;
the lowest-numbered EMPTY slot, or with none the READY slot of the largest age (of equal ages the lower number),
becomes FILLING with the counter's frame number and the present time; a LOST camera becomes ACQUIRING with a
CAMERA notice; the loss timer restarts; nothing else changes. An OFF camera ignores it (R50, R53, R54, R58). -/
def Obligations.FrameStartOpensOneSlot : Prop :=
  ∀ (i : Fin 4) (s : State), s.Takes →
    (s.cams[i].state = .off → exec (.frameStart i) s = .next s) ∧
    (s.cams[i].state ≠ .off → s.cams[i].RingLaw →
      let c := s.cams[i]
      let now := s.timer.timebase
      let lost := decide (c.state = .lost)
      let filling := c.slots.toList.any RingSlot.isFilling
      let left := fun k : Fin 4 => if c.slots[k].isFilling then RingSlot.empty else c.slots[k]
      ∃ (j : Fin 4) (slots : Vector RingSlot 4),
        ((left j = .empty ∧ ∀ k : Fin 4, k < j → left k ≠ .empty) ∨
          ((∀ k : Fin 4, left k ≠ .empty) ∧ ∃ e, (left j).readyEnd? = some e ∧
            ∀ (k : Fin 4) (e' : Word), (left k).readyEnd? = some e' →
              now - e' < now - e ∨ (now - e' = now - e ∧ j ≤ k))) ∧
        slots[j] = .filling c.frameCounter now 0 ∧ (∀ k : Fin 4, k ≠ j → slots[k] = left k) ∧
        exec (.frameStart i) s = .next ((if lost then
            s.notice .camera ([BitVec.ofNat 8 i.val, 1#8] ++ le32 now.toNat) else s).setCam i
          { c with
            state := if lost then .acquiring else c.state
            good := if lost || filling then 0 else c.good
            loss := some (1000 * c.setup.lossMs)
            mark := none
            lastDamage := if filling then some (c.mark.getD .interrupted) else c.lastDamage
            damage := if filling then c.damage + 1#16 else c.damage
            skipped := if evictedUnused (left j) then c.skipped + 1#16 else c.skipped
            frameCounter := c.frameCounter + 1#16
            slots := slots }))

/-- LINE: ignored by an OFF camera, with no FILLING slot, and in a frame that carries a mark; else the first
check that fails marks the frame LINE_COUNT, LINE_LENGTH or OVERRUN; a line that passes joins the line FIFO with
its slot and row, the lines received add 1, and the arbiter makes the grant that a free port allows (R55, R56; two
bytes per pixel is log 7). The converted line has three bytes per pixel: both pixels of a pair keep their own Y and
take the pair's Cb and Cr (R52). -/
def Obligations.LineIsCheckedAndConverted : Prop :=
  (∀ (i k : Fin 4) (bytes : List Byte) (n : Half) (start : Word) (lines : Nat) (s : State), s.Takes →
    let c := s.cams[i]
    let marked := fun d : DamageClass =>
      exec (.line i bytes) s = .next (arbitrate (s.setCam i { c with mark := some d }))
    (c.state = .off → exec (.line i bytes) s = .next s) ∧
    (c.state ≠ .off →
      ((∀ j : Fin 4, c.slots[j].isFilling = false) ∨ c.mark ≠ none →
        exec (.line i bytes) s = .next (arbitrate s)) ∧
      (c.RingLaw → c.slots[k] = .filling n start lines → c.mark = none →
        (lines = c.setup.height → marked .lineCount) ∧
        (lines ≠ c.setup.height → bytes.length / 2 ≠ c.setup.width → marked .lineLength) ∧
        (lines ≠ c.setup.height → bytes.length / 2 = c.setup.width → 2 ≤ c.fifo.length → marked .overrun) ∧
        (lines ≠ c.setup.height → bytes.length / 2 = c.setup.width → c.fifo.length < 2 →
          exec (.line i bytes) s = .next (arbitrate (s.setCam i
            { c with
              fifo := c.fifo ++ [⟨k, lines, convertLine bytes, 0⟩]
              slots := c.slots.set k (.filling n start (lines + 1)) })))))) ∧
  (∀ (bytes : List Byte) (n : Nat), bytes.length = 4 * n →
    (convertLine bytes).length = 6 * n ∧
    ∀ k < n,
      slice (convertLine bytes) (6 * k) 3 = [byteAt bytes (4 * k + 1), byteAt bytes (4 * k), byteAt bytes (4 * k + 2)] ∧
      slice (convertLine bytes) (6 * k + 3) 3 =
        [byteAt bytes (4 * k + 3), byteAt bytes (4 * k), byteAt bytes (4 * k + 2)])

/-- FRAME_END: ignored by an OFF camera and with no FILLING slot; an unmarked frame whose lines equal the height
becomes READY with the present time and adds 1 to the good count up to 255, which makes an ACQUIRING camera LIVE
with a CAMERA notice at the acquire count; any other frame is recorded as damaged, its slot EMPTY and the good
count 0 (R57, R58, R49). -/
def Obligations.FrameEndClosesTheFrame : Prop :=
  ∀ (i k : Fin 4) (n : Half) (start : Word) (lines : Nat) (s : State), s.Takes →
    let c := s.cams[i]
    let now := s.timer.timebase
    (c.state = .off ∨ (∀ j : Fin 4, c.slots[j].isFilling = false) → exec (.frameEnd i) s = .next s) ∧
    (c.state ≠ .off → c.RingLaw → c.slots[k] = .filling n start lines →
      (c.mark = none → lines = c.setup.height →
        let good := min 255 (c.good + 1)
        let live := c.state = .acquiring ∧ c.setup.acquire ≤ good
        let t := s.setCam i { c with
          slots := c.slots.set k (.ready n start now lines false)
          good := good
          state := if live then .live else c.state }
        exec (.frameEnd i) s = .next (if live then
          t.notice .camera ([BitVec.ofNat 8 i.val, 2#8] ++ le32 now.toNat) else t)) ∧
      (c.mark ≠ none ∨ lines ≠ c.setup.height →
        exec (.frameEnd i) s = .next (s.setCam i { c with
          slots := c.slots.set k .empty
          good := 0
          damage := c.damage + 1#16
          lastDamage := some (c.mark.getD .lineCount)
          mark := none })))

/-- LOSS_TIMER_EXPIRY of an ACQUIRING or LIVE camera whose timer has run down to 0: the camera becomes LOST, the timer
is stopped, a CAMERA notice is handed, and slots, line FIFO and good count stay; when a frame start is taken first, it
restarts the timer and the expiry does not happen (R48). That the command does nothing at a timer that is stopped or
has not run down is the model's choice (log 2). -/
def Obligations.LossTimerExpiryMakesTheCameraLost : Prop :=
  ∀ (i : Fin 4) (s : State), s.Takes →
    let c := s.cams[i]
    (c.loss = some 0 → c.state = .acquiring ∨ c.state = .live →
      exec (.lossTimerExpiry i) s = .next ((s.setCam i { c with state := .lost, loss := none }).notice .camera
        ([BitVec.ofNat 8 i.val, 3#8] ++ le32 s.timer.timebase.toNat))) ∧
    (c.loss ≠ some 0 ∨ c.state = .off ∨ c.state = .lost → exec (.lossTimerExpiry i) s = .next s) ∧
    (c.state ≠ .off → c.RingLaw → 0 < c.setup.lossMs → ∃ t : State,
      exec (.frameStart i) s = .next t ∧ exec (.lossTimerExpiry i) t = .next t)

/-! ### Selection (Section 3.5) -/

/-- The tests of Table 3-7 in order: the first that holds decides the reason. OFF, ACQUIRING, LOST, EXCLUDED and
OBSTRUCTED decide whatever the ring holds. The candidate is the READY slot of the smallest age, of equal ages the
higher number; it is STALE above the stale limit, else the available answer names it with its frame number, age and
the setup's width and height (R61, R62). -/
def Obligations.SelectionAppliesTheTestsInOrder : Prop :=
  ∀ (c : Camera) (i k : Fin 4) (p : Params) (now n : BitVec 32) (fn : Half) (start fin : Word) (lines : Nat)
    (used : Bool),
    let obstructed := (i = 3 ∧ p.leftOpen = true) ∨ (i = 2 ∧ p.rightOpen = true)
    (c.state = .off → c.answer i p now = .unavailable .off) ∧
    (c.state = .acquiring → c.answer i p now = .unavailable .acquiring) ∧
    (c.state = .lost → c.answer i p now = .unavailable .lost) ∧
    (c.state = .live → p.exclude.getLsbD i.val = true → c.answer i p now = .unavailable .excluded) ∧
    (c.state = .live → p.exclude.getLsbD i.val = false → obstructed → c.answer i p now = .unavailable .obstructed) ∧
    (c.slots[k] = .ready fn start fin lines used →
      (∀ (j : Fin 4) (e : Word), c.slots[j].readyEnd? = some e →
        now - fin < now - e ∨ (now - fin = now - e ∧ j ≤ k)) →
      n = now - fin →
      c.answer i p now =
        if c.state = .off then .unavailable .off
        else if c.state = .acquiring then .unavailable .acquiring
        else if c.state = .lost then .unavailable .lost
        else if p.exclude.getLsbD i.val = true then .unavailable .excluded
        else if obstructed then .unavailable .obstructed
        else if c.setup.staleMs * 1000 < n.toNat then .unavailable .stale
        else .available ⟨k, fn, n, c.setup.width, c.setup.height⟩)

/-- SELECTION_EVENT of an armed point: the answer becomes the camera's entry, an available camera's candidate
becomes IN_USE with its record unchanged, an unavailable selection changes no slot, and the point is disarmed; nothing
else changes (R61, R62, R74, R86). A composer waiting for no other camera returns to ISSUING (R89); that it decides
the tile at its next TILE_DECISION and not in this step is the model's choice (log 8), and so is that a point that is
not armed is no event (log 2). -/
def Obligations.SelectionEventRecordsTheAnswer : Prop :=
  ∀ (i : Fin 4) (s : State), s.Takes →
    (s.timer.armed[i] = false → exec (.selectionEvent i) s = .next s) ∧
    (s.timer.armed[i] = true →
      let ans := s.cams[i].answer i s.active s.timer.timebase
      ∃ (c' : Camera) (st : ComposerState),
        (∀ a n x y l u, ans = .available a → s.cams[i].slots[a.slot] = .ready n x y l u →
          c' = { s.cams[i] with slots := s.cams[i].slots.set a.slot (.inUse n x y l) }) ∧
        (∀ a, ans = .available a → ∃ n x y l u, s.cams[i].slots[a.slot] = .ready n x y l u) ∧
        (∀ r, ans = .unavailable r → c' = s.cams[i]) ∧
        (s.comp.state ≠ .waiting → st = s.comp.state) ∧
        (∀ bs r, s.comp.state = .waiting → s.comp.recordBytes s.comp.index = some bs → tileRecordOf bs = some r →
          st = if ∀ j ∈ r.needs, j = i ∨ s.comp.selection[j] ≠ .pending then .issuing else .waiting) ∧
        exec (.selectionEvent i) s = .next (((s.setCam i c').setTimer
          { s.timer with armed := s.timer.armed.set i false }).setComp
            { s.comp with state := st, selection := s.comp.selection.set i ans }))

/-! ### Cadence marks (Sections 4.3 and 5.2) -/

/-- A mark that starts a composition: pending timing takes effect, the slots rotate, a picture begins with an empty
line buffer and, from a slot, the fetch of line 0, the staged set is copied into the active set, the composer takes
the lowest-numbered FREE slot and notes the SCANNING slot, numbers the composition, clears the hold ages and the
coverage reference on a fresh start, the zone statistics are zero, and every point is armed but those of offset 0,
which are selected at once under the new active set; the data of a SCAN burst on the port will be discarded, and a
free port makes a grant (R68, R70, R74, R77, R84, R107, R117, R119, R120). -/
def Obligations.MarkStartsAComposition : Prop :=
  ∀ (k : Fin 3) (s : State), s.Takes →
    s.top.state = .run ∨ (s.top.state = .shot ∧ s.top.shotPending = true) → s.comp.state = .idle →
    (∀ i : Fin 4, s.comp.selection[i] = .pending) →
    let rot := s.out.rotate s.top.state
    let timing := s.timer.pendingTiming.getD s.timer.timing
    rot.slots[k] = .free → (∀ j : Fin 3, j < k → rot.slots[j] ≠ .free) → s.staged.table ≠ none →
    ∃ t : State, exec .cadenceMark s = .next (arbitrate t) ∧
      t.active = s.staged ∧ t.staged = s.staged ∧
      t.timer = { s.timer with
        counter := 0, timing := timing, pendingTiming := none, lateRun := false, armed := t.timer.armed } ∧
      (∀ i : Fin 4, t.timer.armed[i] = decide (timing.offsets[i] ≠ 0)) ∧
      t.top = { s.top with shotPending := false } ∧ (∀ z : Fin 4, t.zones[z] = ⟨0, 0, 0⟩) ∧
      t.out = { s.out with
        slots := rot.slots.set k (.composing (s.comp.seq + 1#16)), blank := rot.blank, source := rot.scanning
        places := if rot.scanning = none then [] else [⟨0, [], false⟩]
        nextLine := if rot.scanning = none then 0 else 1
        linesEnded := 0, reported := false } ∧
      t.arb = (match s.arb.port with
        | some ⟨.scan m, a, n, d, _⟩ => { s.arb with port := some ⟨.scan m, a, n, d, false⟩ }
        | _ => s.arb) ∧
      t.comp = { s.comp with
        state := .issuing, index := 0, slot := some k, hold := rot.scanning, markTime := s.timer.timebase
        seq := s.comp.seq + 1#16, mapRuns := [], fresh := 0, held := 0, filled := 0, freshStart := false
        holdTable := if s.comp.freshStart then Vector.replicate 384 0 else s.comp.holdTable
        coverage := if s.comp.freshStart then none else s.comp.coverage
        selection := t.comp.selection } ∧
      (∀ i : Fin 4,
        if timing.offsets[i] = 0 then
          t.comp.selection[i] = s.cams[i].answer i s.staged s.timer.timebase ∧
          t.cams[i] = s.cams[i].selected i s.staged s.timer.timebase
        else t.comp.selection[i] = .pending ∧ t.cams[i] = s.cams[i]) ∧
      t.link = s.link ∧ t.slot = s.slot ∧ t.stopOwed = s.stopOwed ∧ t.banks = s.banks ∧ t.mem = s.mem ∧
      t.pending = s.pending ∧ t.ties = s.ties ∧ t.memStart = s.memStart ∧ t.resetAsserted = s.resetAsserted

/-- A mark that starts no composition. Wanted while the composer is not IDLE, it is missed: the late count adds 1,
and the first of a run hands a LATE notice with the mark time, the new count and the composition's number. Not
wanted, it clears the late run flag. Both rotate the slots, begin a picture with an empty line buffer and, from a
slot, the fetch of line 0, and apply pending timing; the data of a SCAN burst on the port will be discarded, and a
free port makes a grant. The composition, the active set and the armed points stay (R68, R71, R72, R73, R119, R120). -/
def Obligations.MarkThatStartsNothingIsMissedOrPasses : Prop :=
  ∀ s : State, s.Takes →
    let wanted := s.top.state = .run ∨ (s.top.state = .shot ∧ s.top.shotPending = true)
    let timer : Timer := { s.timer with
      counter := 0, timing := s.timer.pendingTiming.getD s.timer.timing, pendingTiming := none }
    let rot := s.out.rotate s.top.state
    let out : Output := { s.out with
      slots := rot.slots, blank := rot.blank, source := rot.scanning
      places := if rot.scanning = none then [] else [⟨0, [], false⟩]
      nextLine := if rot.scanning = none then 0 else 1
      linesEnded := 0, reported := false }
    let arb := match s.arb.port with
      | some ⟨.scan m, a, n, d, _⟩ => { s.arb with port := some ⟨.scan m, a, n, d, false⟩ }
      | _ => s.arb
    (wanted → s.comp.state ≠ .idle →
      let t := (((s.setComp { s.comp with late := s.comp.late + 1#16 }).setTimer
        { timer with lateRun := true }).setOut out).setArb arb
      exec .cadenceMark s = .next (arbitrate (if s.timer.lateRun then t else
        t.notice .late (le32 s.timer.timebase.toNat ++ le16 (s.comp.late + 1#16).toNat ++ le16 s.comp.seq.toNat)))) ∧
    (¬ wanted → exec .cadenceMark s =
      .next (arbitrate (((s.setTimer { timer with lateRun := false }).setOut out).setArb arb)))

/-- The rotation of a mark: a PUBLISHED slot becomes SCANNING and the slot that was SCANNING FREE; then in IDLE
or with the blank flag set the SCANNING slot becomes FREE and the flag is cleared; COMPOSING and FREE slots stay
(R116). -/
def Obligations.RotationMovesPublishedToScanning : Prop :=
  ∀ (o : Output) (top : TopState) (k : Fin 3),
    let some' := ∃ j : Fin 3, o.slots[j].isPublished = true
    let blanked := top = .idle ∨ o.blank = true
    (∀ q, o.slots[k] = .published q → (o.rotate top).slots[k] = if blanked then .free else .scanning q) ∧
    (∀ q, o.slots[k] = .scanning q →
      (o.rotate top).slots[k] = if some' ∨ blanked then .free else .scanning q) ∧
    (∀ q, o.slots[k] = .composing q → (o.rotate top).slots[k] = .composing q) ∧
    (o.slots[k] = .free → (o.rotate top).slots[k] = .free) ∧
    (o.rotate top).blank = false

/-! ### The composer (Sections 5.4 to 5.7 and 6) -/

/-- TILE_DECISION with the tile's record to hand: while a needed camera is PENDING the composer enters WAITING and
issues nothing. Else the tile is FRESH when it needs no camera or one it needs is available, with hold age 0; its
age otherwise adds 1 up to 255, and it is HELD when a hold source exists and the age is at most the hold limit,
else FILLED. A finished tile in SAMPLE goes first to an empty STORE. With FETCH free the tile is issued into FETCH
with the reads of its kind and counted by its treatment, and issuing tile 383 enters DRAINING; a tile without reads
goes on, its colour known, to an empty SAMPLE and STORE. While FETCH is not free the tile is held decided. The moves
of the pipeline that this and every other command of the composer makes: to STORE, to SAMPLE, and the issue, until
none is left (R87, R88, R90, R91, R92, R94, R95, R130, R18, R19). -/
def Obligations.TileDecisionWaitsOrDecidesOnce : Prop :=
  (∀ (bs : List Byte) (r : TileRecord) (k : Fin 3) (pair : BankPair) (s : State), s.Takes →
    s.comp.state = .issuing → s.comp.decided = none → s.comp.index < 384 →
    s.comp.recordBytes s.comp.index = some bs → tileRecordOf bs = some r →
    s.comp.slot = some k → s.active.pair = some pair →
    ((∃ i ∈ r.needs, s.comp.selection[i] = .pending) →
      exec .tileDecision s = .next (arbitrate (s.setComp { s.comp with state := .waiting }))) ∧
    ((∀ i ∈ r.needs, s.comp.selection[i] ≠ .pending) →
      let n := s.comp.index
      let seen := r.needs = [] ∨ ∃ i ∈ r.needs, ∃ x, s.comp.selection[i] = .available x
      let views := r.needs.filterMap fun i => match s.comp.selection[i] with
        | .available x => some (⟨i, x⟩ : View)
        | _ => none
      ∃ (tr : Treatment) (age : Nat) (c : Composer),
        let tile : Tile := ⟨n, r, tr, k, pair, if tr = .fresh then views else []⟩
        let ages := s.comp.holdTable.setIfInBounds n age
        let ahead : Composer := match s.comp.sample, s.comp.store with
          | some ⟨t, _, _, _, some px⟩, none => { s.comp with sample := none, store := some ⟨t, px, 0⟩ }
          | _, _ => s.comp
        let issued : Composer := { ahead with
          decided := none, index := n + 1, holdTable := ages
          mapRuns := s.comp.mapRuns.filter fun m => decide (n + 1 ≤ 64 * m.run + 63)
          state := if n + 1 = 384 then .draining else .issuing
          fresh := s.comp.fresh + if tr = .fresh then 1 else 0
          filled := s.comp.filled + if tr = .filled then 1 else 0
          held := s.comp.held + if tr = .fresh ∨ tr = .filled then 0 else 1 }
        let banks := if pair.low = pair.high then [pair.low] else [pair.low, pair.high]
        let rows := fun (b : Fin 8) (base size : Nat) => (List.range 5).map fun j =>
          (⟨bankAddr b + base + size * ((4 * (n / 16) + j) * 65 + 4 * (n % 16)), 5 * size⟩ : Run)
        let meshes := tile.views.flatMap fun v => banks.flatMap fun b => rows b (25220 * v.cam.val) 4
        let reads := match tr, r with
          | .held h, _ => [⟨outAddr h + 3072 * n, 3072⟩]
          | .filled, _ => []
          | .fresh, .void => []
          | .fresh, .body => [⟨bodyBase + 3072 * n, 3072⟩]
          | .fresh, .single _ => meshes
          | .fresh, .blend _ _ _ => meshes ++ banks.flatMap fun b => rows b 100880 1
        let colour := if tr = .filled then s.active.fill else s.active.void
        let solid := (List.replicate 1024 [colour.y, colour.cb, colour.cr]).flatten
        exec .tileDecision s = .next (arbitrate (s.setComp c)) ∧
        (seen → tr = .fresh ∧ age = 0) ∧
        (¬ seen → (∀ m : Fin 384, m.val = n → age = min 255 (s.comp.holdTable[m] + 1)) ∧
          (∀ h, s.comp.hold = some h → age ≤ s.active.holdLimit → tr = .held h) ∧
          (s.comp.hold = none ∨ s.active.holdLimit < age → tr = .filled)) ∧
        c = Composer.advance { s.comp with decided := some tile, holdTable := ages } s.active ∧
        (s.comp.fetch = none →
          (reads ≠ [] → c = { issued with fetch := some ⟨tile, reads.flatMap Run.cut, []⟩ }) ∧
          (reads = [] → ahead.sample ≠ none → c = { issued with fetch := some ⟨tile, [], []⟩ }) ∧
          (reads = [] → ahead.sample = none → ahead.store ≠ none →
            c = { issued with sample := some ⟨tile, [], [], [], some solid⟩ }) ∧
          (reads = [] → ahead.sample = none → ahead.store = none →
            c = { issued with store := some ⟨tile, solid, 0⟩ })) ∧
        (∀ t todo got, s.comp.fetch = some ⟨t, todo, got⟩ → todo ≠ [] ∨ ahead.sample ≠ none →
          c = { ahead with decided := some tile, holdTable := ages }))) ∧
  (∀ (c : Composer) (p : Params),
    let toStore := fun c : Composer => match c.sample, c.store with
      | some ⟨t, _, _, _, some px⟩, none => { c with sample := none, store := some ⟨t, px, 0⟩ }
      | _, _ => c
    let solid := fun q : Pixel => (List.replicate 1024 [q.y, q.cb, q.cr]).flatten
    let toSample := fun c : Composer => match c.fetch, c.sample with
      | some ⟨t, [], got⟩, none => { c with
        fetch := none
        sample := some ⟨t, got, (t.sampleRuns got).flatMap Run.cut, [], match t.treatment, t.record with
          | .held _, _ => some got
          | .filled, _ => some (solid p.fill)
          | .fresh, .void => some (solid p.void)
          | .fresh, .body => some got
          | .fresh, .single _ => none
          | .fresh, .blend _ _ _ => none⟩ }
      | _, _ => c
    let issue := fun c : Composer => match c.state, c.decided, c.fetch with
      | .issuing, some t, none => { c with
        decided := none, index := c.index + 1, fetch := some ⟨t, t.fetchRuns.flatMap Run.cut, []⟩
        mapRuns := c.mapRuns.filter fun m => decide (c.index + 1 ≤ 64 * m.run + 63)
        state := if c.index + 1 = 384 then .draining else .issuing
        fresh := c.fresh + if t.treatment = .fresh then 1 else 0
        filled := c.filled + if t.treatment = .filled then 1 else 0
        held := c.held + if t.treatment = .fresh ∨ t.treatment = .filled then 0 else 1 }
      | _, _, _ => c
    let once := fun c => issue (toSample (toStore c))
    let d := c.advance p
    d = once (once (once c)) ∧ toStore d = d ∧ toSample d = d ∧ issue d = d)

/-- SAMPLE_ARITHMETIC_DONE of a tile whose source reads are complete: its 1,024 pixels are known, and it moves to
an empty STORE stage or waits in SAMPLE. A pixel of a SINGLE tile is its camera's, else the void colour (R15); a
pixel of a BLEND tile is blended where both cameras have one, else the one camera's, else the void colour (R16, R17).
A BLEND tile adds to its zone one count for each blended pixel, the primary's lumas to the sum of the primary's
camera and the secondary's to the other; no other zone changes, and a tile of another kind adds nothing (R20, R94,
R95, R108). -/
def Obligations.SampleDoneStoresPixelsAndCountsTriples : Prop :=
  ∀ (t : Tile) (fetched got : List Byte) (s : State), s.Takes →
    s.comp.sample = some ⟨t, fetched, [], got, none⟩ →
    let px := t.compute s.active fetched got
    let bytes := px.flatMap fun o => [o.pixel.y, o.pixel.cb, o.pixel.cr]
    let lumas := px.filterMap PixelOutcome.lumas
    let view := fun (c : Fin 4) (n : Nat) =>
      cameraPixel (t.viewData fetched t.views.zipIdx got) s.active.gains c (n % 32) (n / 32)
    ∃ (c : Composer) (zs : Vector Zone 4),
      exec .sampleArithmeticDone s = .next (arbitrate ((s.setComp c).setZones zs)) ∧
      c = Composer.advance { s.comp with sample := some ⟨t, fetched, [], got, some bytes⟩ } s.active ∧
      (s.comp.store = none → c.store = some ⟨t, bytes, 0⟩) ∧
      (∀ st, s.comp.store = some st →
        c.store = some st ∧ c.sample = some ⟨t, fetched, [], got, some bytes⟩) ∧
      (∀ p, t.record = .single p → px.length = 1024 ∧ ∀ n < 1024,
        px[n]? = some ⟨(view p n).getD s.active.void, none⟩) ∧
      (∀ p q z, t.record = .blend p q z → px.length = 1024 ∧ ∀ n < 1024, px[n]? = match view p n, view q n with
        | some a, some b => some ⟨blendPixel (pixelWeight (t.weights fetched) (n % 32) (n / 32)) a b,
            some (a.y.toNat, b.y.toNat)⟩
        | some a, none => some ⟨a, none⟩
        | none, some b => some ⟨b, none⟩
        | none, none => some ⟨s.active.void, none⟩) ∧
      ((∀ p q z, t.record ≠ .blend p q z) → zs = s.zones) ∧
      (∀ p q z, t.record = .blend p q z →
        (∀ y : Fin 4, y ≠ z → zs[y] = s.zones[y]) ∧
        zs[z].count = s.zones[z].count + lumas.length ∧
        (p = z → zs[z].first = s.zones[z].first + (lumas.map Prod.fst).sum ∧
          zs[z].second = s.zones[z].second + (lumas.map Prod.snd).sum) ∧
        (p ≠ z → zs[z].first = s.zones[z].first + (lumas.map Prod.snd).sum ∧
          zs[z].second = s.zones[z].second + (lumas.map Prod.fst).sum))

/-- BURST_COMPLETE: a completed write burst puts its bytes at its place in DRAM and changes no other byte, whatever
has happened to its work since the grant; a completed read burst changes none (R129; that a write's bytes land at the
completion is log 9). The port is free, the requester moves its work on, and the next grant is made in the same step:
a camera line advances and leaves the FIFO after its last burst (R56); a SCAN burst joins its line's place, and after
the line's last one the next line's fetch may begin (R120); a tile-map run is kept (R130); FETCH and SAMPLE keep what
they read and STORE what it has written, a finished STORE is empty, and the tiles behind move on (R94, R95). A burst
whose work has ended is credited to nobody (R129). With no burst on the port the command does nothing, which is the
model's choice (log 10). The last bursts of a job, of a verification and of a composition have their own statements. -/
def Obligations.BurstWritesItsBytesAlone : Prop :=
  ∀ s : State,
    (s.arb.port = none → exec .burstComplete s = .next s) ∧
    (∀ b, s.arb.port = some b →
      let u := (match b.data with
        | some bytes => s.setMem (Memory.writeRun s.mem b.addr bytes)
        | none => s).setArb { s.arb with port := none }
      let read := Memory.readRun s.mem b.addr b.len
      landBurst b s = u ∧
      (∃ t : State, exec .burstComplete s = .next t ∧
        (b.data = none → t.mem = s.mem) ∧
        (∀ bytes, b.data = some bytes →
          (∀ a, a < b.addr ∨ b.addr + bytes.length ≤ a → Memory.read t.mem a = Memory.read s.mem a) ∧
          (s.MemoryLaw → ∀ i < bytes.length, Memory.read t.mem (b.addr + i) = byteAt bytes i))) ∧
      (s.Takes → s.memStart = .complete →
        (b.wanted = false → exec .burstComplete s = .next (arbitrate u)) ∧
        (b.wanted = true →
          (∀ (i : Fin 4) (l : PendingLine) (rest : List PendingLine), b.client = .camera i →
            s.cams[i].fifo = l :: rest → exec .burstComplete s = .next (arbitrate (u.setCam i { s.cams[i] with
              fifo := if l.data.length ≤ l.written + b.len then rest
                else { l with written := l.written + b.len } :: rest }))) ∧
          (∀ n, b.client = .scan n → b.data = none →
            let places := s.out.places.map fun p =>
              if p.line = n ∧ p.dropped = false then { p with got := p.got ++ read } else p
            let goesOn := s.out.source ≠ none ∧ places.length < 2 ∧ s.out.nextLine < 768 ∧
              ∀ p ∈ places, p.dropped = true ∨ 1536 ≤ p.got.length
            (goesOn → exec .burstComplete s = .next (arbitrate (u.setOut { s.out with
              places := places ++ [⟨s.out.nextLine, [], false⟩], nextLine := s.out.nextLine + 1 }))) ∧
            (¬ goesOn → exec .burstComplete s = .next (arbitrate (u.setOut { s.out with places := places })))) ∧
          (∀ m, b.client = .tileMap m → b.data = none → exec .burstComplete s = .next (arbitrate (u.setComp
            { s.comp with mapRuns := s.comp.mapRuns ++ [⟨m, read⟩] }))) ∧
          (∀ t r todo got, b.client = .fetch → b.data = none → s.comp.fetch = some ⟨t, r :: todo, got⟩ →
            exec .burstComplete s = .next (arbitrate (u.setComp
              (Composer.advance { s.comp with fetch := some ⟨t, todo, got ++ read⟩ } s.active)))) ∧
          (∀ t f r todo got px, b.client = .sample → b.data = none → s.comp.sample = some ⟨t, f, r :: todo, got, px⟩ →
            exec .burstComplete s = .next (arbitrate (u.setComp
              { s.comp with sample := some ⟨t, f, todo, got ++ read, px⟩ }))) ∧
          (∀ t px n, b.client = .store → s.comp.store = some ⟨t, px, n⟩ →
            (n + b.len < 3072 → exec .burstComplete s = .next (arbitrate (u.setComp
              (Composer.advance { s.comp with store := some ⟨t, px, n + b.len⟩ } s.active)))) ∧
            (3072 ≤ n + b.len → s.comp.fetch ≠ none ∨ s.comp.sample ≠ none ∨ s.comp.state = .issuing ∨
                s.comp.state = .waiting →
              exec .burstComplete s = .next (arbitrate (u.setComp
                (Composer.advance { s.comp with store := none } s.active))))))))

/-- Frame complete: when the last burst of tile 383's STORE is in DRAM in DRAINING, armed points are cancelled as
NOT_REACHED, each selected camera releases its IN_USE slot (to READY with its used flag set, or to EMPTY when the
camera is OFF or its discard mark set, which is cleared), the composing slot is PUBLISHED, a PUBLISHED record enters
the history, the gain update is made in AUTO, a COVERAGE notice goes out when the availability set differs from the
reference, which it becomes, and in SHOT the shot is settled with its SHOT_DONE notice after it; then the composer is
IDLE with every entry PENDING, and the port's next grant is made. Nothing else changes (R96, R97, R98, R99, R63, R104,
R109, R117, R138). -/
def Obligations.FrameCompletePublishesTheFrame : Prop :=
  ∀ (b : Burst) (st : StoreStage) (k : Fin 3) (q : Half) (s : State), s.Takes → s.memStart = .complete →
    s.arb.port = some b → b.client = .store → b.wanted = true → s.comp.state = .draining → s.comp.fetch = none →
    s.comp.sample = none → s.comp.store = some st → 3072 ≤ st.written + b.len →
    s.comp.slot = some k → s.out.slots[k] = .composing q →
    let answers : Vector Selection 4 := Vector.ofFn fun i =>
      if s.timer.armed[i] then .unavailable .notReached else s.comp.selection[i]
    let available : Vector Bool 4 := answers.map fun a => match a with
      | .available _ => true
      | _ => false
    let released := fun c : Camera => { c with
      discard := false
      slots := Vector.ofFn fun j => match c.slots[j] with
        | .inUse n a b l => if c.state = .off ∨ c.discard = true then .empty else .ready n a b l true
        | x => x }
    let shotTop : Top := if s.top.repeatShot then ⟨.shot, true, false⟩ else ⟨.frozen, false, false⟩
    let noted := if s.comp.coverage = some available then s else
      s.notice .coverage (le16 s.comp.seq.toNat ++ answers.toList.map Selection.code)
    exec .burstComplete s = .next (arbitrate { landBurst b s with
      cams := Vector.ofFn fun i => match answers[i] with
        | .available _ => released s.cams[i]
        | _ => s.cams[i]
      timer := { s.timer with armed := Vector.replicate 4 false }
      out := { s.out with slots := s.out.slots.set k (.published q) }
      comp := { s.comp with
        state := .idle, store := none, slot := none, hold := none, selection := Vector.replicate 4 .pending
        coverage := some available
        history := (⟨s.comp.seq, s.comp.markTime, .published, s.comp.index, answers, s.active.gains,
          s.active.height, s.active.pair.getD ⟨0, 0, 0⟩, s.comp.fresh, s.comp.held, s.comp.filled⟩ ::
            s.comp.history).take 8 }
      staged := match s.active.mode with
        | .manual => s.staged
        | .auto => { s.staged with
            gains := Vector.ofFn fun c => updatedGain c s.zones s.active.gains s.staged.gains }
      top := if s.top.state = .shot then shotTop else s.top
      link := if s.top.state = .shot then
        (noted.notice .shotDone (le16 s.comp.seq.toNat ++ [shotTop.state.code])).link else noted.link })

/-- The new staged gain of a camera at an update. A zone counts for it when its N is at least 4,096 and the
camera's own sum is above 0; its ratio is the gain that would meet the mean of both sums, rounded half up; the
target is the one ratio or the mean of two; the gain moves an eighth of the way, truncated toward zero, within
128–512; with no valid zone the staged gain stands (R110, R111, R112). -/
def Obligations.GainMovesAnEighthOfTheWay : Prop :=
  ∀ (c : Fin 4) (zs : Vector Zone 4) (active staged : Vector Nat 4), 128 ≤ active[c] → active[c] ≤ 512 →
    let g := active[c]
    let own := fun z : Fin 4 => if c = z then zs[z].first else zs[z].second
    let valid := fun z : Fin 4 => 4096 ≤ zs[z].count ∧ 0 < own z
    let q := fun z : Fin 4 => (g * (zs[z].first + zs[z].second) + own z) / (2 * own z)
    let moved := fun t : Nat => if g ≤ t then min 512 (g + (t - g) / 8) else max 128 (g - (g - t) / 8)
    let z' : Fin 4 := c + 3
    (¬ valid c → ¬ valid z' → updatedGain c zs active staged = staged[c]) ∧
    (valid c → ¬ valid z' → updatedGain c zs active staged = moved (q c)) ∧
    (¬ valid c → valid z' → updatedGain c zs active staged = moved (q z')) ∧
    (valid c → valid z' → updatedGain c zs active staged = moved ((q c + q z' + 1) / 2))

/-! ### Output and display (Sections 7.3 and 7.4) -/

/-- LINE_TIME_END of a line 0 to 767: its place is free and, with a place free and no line on its way, the fetch of
the next line not yet fetched begins, up to line 767. LINE_UNDERRUN of the line being sent, in a period whose source
is a slot: the line's fetch is dropped, the count adds 1, the first of the period hands an UNDERRUN notice with the
mark time, the line, the slot's number and the new count, and the fetch goes on (R120, R121, R122). Pixel k of line n
leaves the port at counter value (n + 1) × L + (k × L) div 512 and at no other: from the slot when it has arrived, else
the fill colour; in the first line time and after line 767 the port sends no picture data (R119, R120, R121, R123).
That LINE_TIME_END past line 767, and LINE_UNDERRUN in a fill picture, do nothing is the model's choice (log 2), and so
is that a place is taken when the fetch of its line begins (log 16). -/
def Obligations.LinesEndAndUnderrunInOrder : Prop :=
  (∀ s : State, s.Takes →
    let n := s.out.linesEnded
    let next := fun places : List LinePlace => s.out.source ≠ none ∧ places.length < 2 ∧ s.out.nextLine < 768 ∧
      ∀ p ∈ places, p.dropped = true ∨ 1536 ≤ p.got.length
    (768 ≤ n → exec .lineTimeEnd s = .next s) ∧
    (n < 768 →
      let kept := s.out.places.filter fun p => decide (p.line ≠ n)
      (next kept → exec .lineTimeEnd s = .next (arbitrate (s.setOut { s.out with
        places := kept ++ [⟨s.out.nextLine, [], false⟩], nextLine := s.out.nextLine + 1, linesEnded := n + 1 }))) ∧
      (¬ next kept → exec .lineTimeEnd s =
        .next (arbitrate (s.setOut { s.out with places := kept, linesEnded := n + 1 })))) ∧
    (s.out.source = none → exec .lineUnderrun s = .next s) ∧
    (∀ (k : Fin 3) (q : Half) (p : LinePlace), s.out.source = some k → s.out.slots[k] = .scanning q →
      s.out.places.find? (fun x => decide (x.line = n)) = some p → p.dropped = false → p.got.length < 1536 →
      let kept := s.out.places.map fun x => if x.line = n then { x with dropped := true } else x
      let noted := if s.out.reported then s else s.notice .underrun
        (le32 (s.timer.timebase - BitVec.ofNat 32 s.timer.counter).toNat ++ le16 n ++ le16 q.toNat ++
          le16 (s.out.underruns + 1#16).toNat)
      (next kept → exec .lineUnderrun s = .next (arbitrate (noted.setOut { s.out with
        places := kept ++ [⟨s.out.nextLine, [], false⟩], nextLine := s.out.nextLine + 1
        underruns := s.out.underruns + 1#16, reported := true }))) ∧
      (¬ next kept → exec .lineUnderrun s = .next (arbitrate (noted.setOut { s.out with
        places := kept, underruns := s.out.underruns + 1#16, reported := true }))))) ∧
  (∀ s : State, s.Takes → 800 ≤ s.timer.timing.period →
    let l := s.timer.timing.period / 800
    let t := s.timer.counter
    (∀ n k, (768 ≤ n ∨ 512 ≤ k ∨ t ≠ (n + 1) * l + k * l / 512 → s.displayPixel n k = none) ∧
      (n < 768 → k < 512 → t = (n + 1) * l + k * l / 512 →
        (s.out.source = none → s.displayPixel n k = some s.active.fill) ∧
        (∀ (j : Fin 3) (p : LinePlace), s.out.source = some j →
          s.out.places.find? (fun x => decide (x.line = n)) = some p → s.displayPixel n k = some
            (if p.got.length < 3 * k + 3 then s.active.fill
             else ⟨byteAt p.got (3 * k), byteAt p.got (3 * k + 1), byteAt p.got (3 * k + 2)⟩)) ∧
        ((∀ x ∈ s.out.places, x.line ≠ n) → s.displayPixel n k = some s.active.fill))) ∧
    (t < l ∨ 769 * l ≤ t → s.displayPort = [] ∧ ∀ n k, s.displayPixel n k = none) ∧
    (∀ n < 768, (n + 1) * l ≤ t → t < (n + 2) * l →
      s.displayPort = (List.range 512).filterMap fun k => s.displayPixel n k))

/-! ### Resets, memory start and grants (Sections 8 and 9.3) -/

/-- What both resets leave in every block: cameras OFF at their default setup, timing, timebase and counter at
their defaults, both parameter sets at the defaults of Table 4-3 with no table, top state IDLE, composer IDLE with
empty history, zone records zero, output slots FREE, an empty request slot, and an empty link but for STARTED. A pin
reset empties every bank and begins the memory start; a soft reset keeps READY banks, drops all others to EMPTY and
queues STARTED at once. The DRAM keeps its bytes (R41, R42, R66, R82, R106, R126, R134, R139, R141, R155). That a
PIN_RESET without an assertion of the reset input before it is taken whole too is the model's choice (log 17). -/
def Obligations.ResetsLeaveTheManualsValues : Prop :=
  ∀ (tag : Byte) (s : State),
    let params : Params := ⟨none, 0, false, false, 0#4, #v[256, 256, 256, 256], .auto, ⟨16#8, 128#8, 128#8⟩,
      ⟨64#8, 128#8, 128#8⟩, 10⟩
    let blocks := fun t : State =>
      t.slot = none ∧ t.stopOwed = none ∧
      (∀ i : Fin 4, t.cams[i] = ⟨⟨1280, 960, 2, 200, 100⟩, .off, 0, none, [], none, none, 0#16, 0#16, 0#16, false,
        #v[.empty, .empty, .empty, .empty]⟩) ∧
      t.timer = ⟨0#32, 0, ⟨33333, #v[0, 0, 0, 0]⟩, none, #v[false, false, false, false], false⟩ ∧
      t.staged = params ∧ t.active = params ∧ t.top = ⟨.idle, false, false⟩ ∧
      t.comp.state = .idle ∧ t.comp.index = 0 ∧ t.comp.decided = none ∧ t.comp.fetch = none ∧ t.comp.sample = none ∧
      t.comp.store = none ∧ (∀ i : Fin 4, t.comp.selection[i] = .pending) ∧ t.comp.slot = none ∧
      t.comp.hold = none ∧ (∀ n : Fin 384, t.comp.holdTable[n] = 0) ∧ t.comp.freshStart = false ∧
      t.comp.coverage = none ∧ t.comp.fresh = 0 ∧ t.comp.held = 0 ∧ t.comp.filled = 0 ∧ t.comp.seq = 0#16 ∧
      t.comp.late = 0#16 ∧ t.comp.history = [] ∧ (∀ z : Fin 4, t.zones[z] = ⟨0, 0, 0⟩) ∧
      t.out = ⟨#v[.free, .free, .free], false, none, [], 0, 0, 0#16, false⟩ ∧
      t.banks.queue = [] ∧ t.banks.engine = none ∧ t.arb.lastCam = 3 ∧ t.mem = s.mem ∧ t.pending = s.pending ∧
      (s.arb.port = none → t.arb.port = none) ∧
      (∀ b, s.arb.port = some b → t.arb.port = some { b with wanted := false })
    (∃ t : State, exec .pinReset s = .next t ∧ blocks t ∧ t.resetAsserted = false ∧ t.memStart = .bringUp ∧
      t.link = ⟨[], 0x3F#6, false, 0#16, none⟩ ∧ (∀ b : Fin 8, t.banks.dir[b] = .empty)) ∧
    (s.Takes → s.memStart = .complete → s.occupancy < 16 →
      ∃ t : State, exec (.reset tag []) s = .next t ∧ blocks t ∧ t.memStart = .complete ∧
        (∀ b : Fin 8, t.banks.dir[b] = match s.banks.dir[b] with
          | .ready d => .ready d
          | _ => .empty) ∧
        (∃ ready : Byte, t.link.queue = [⟨0xE0#8, 0#8, [1#8, ready]⟩] ∧
          ∀ b : Fin 8, ready.getLsbD b.val = true ↔ ∃ d, s.banks.dir[b] = .ready d) ∧
        t.link.mask = 0x3F#6 ∧ t.link.missed = false ∧ t.link.errors = 0#16 ∧
        (s.link.window = none → t.link.window = none))

/-- The memory start. DRAM_IN_OPERATION begins the body fill, which has the port to itself; each of its 4,608
bursts brings the next, and the last one ends the memory start with STARTED at the head of the held queue, naming the
READY banks, and the first grant (R128, R140, R142; the place of the body plane in DRAM is log 4, and that
DRAM_IN_OPERATION at any other time does nothing is the model's choice, log 10). -/
def Obligations.MemoryStartFillsTheBodyPlaneAndStarts : Prop :=
  ∀ s : State, s.Takes →
    let fill := fun k : Nat => (List.range 256).map fun i => if (256 * k + i) % 3 = 0 then 16#8 else 128#8
    let burst := fun k : Nat => (⟨.bodyFill, bodyBase + 256 * k, 256, some (fill k), true⟩ : Burst)
    (s.memStart ≠ .bringUp → exec .dramInOperation s = .next s) ∧
    (s.memStart = .bringUp → s.arb.port = none → exec .dramInOperation s =
      .next ((s.setMemStart (.bodyFill 0)).setArb { s.arb with port := some (burst 0) })) ∧
    (∀ k, s.memStart = .bodyFill k → s.arb.port = some (burst k) →
      let filled := s.setMem (Memory.writeRun s.mem (bodyBase + 256 * k) (fill k))
      (k + 1 < 4608 → exec .burstComplete s =
        .next ((filled.setMemStart (.bodyFill (k + 1))).setArb { s.arb with port := some (burst (k + 1)) })) ∧
      (k + 1 = 4608 → ∃ ready : Byte, exec .burstComplete s = .next (arbitrate (((filled.setMemStart
          .complete).setLink { s.link with queue := ⟨0xE0#8, 0#8, [0#8, ready]⟩ :: s.link.queue }).setArb
            { s.arb with port := none })) ∧
        ∀ b : Fin 8, ready.getLsbD b.val = true ↔ ∃ d, s.banks.dir[b] = .ready d))

/-- The one grant when the port is free: SCAN whenever it offers; else the first camera that offers, counting from
the one after the last camera granted, which becomes the last camera granted; else COMP; else AUX. No grant to
SCAN, COMP or AUX changes the last camera granted, and without an offer nothing is granted (R132); no grant is made
while a burst is on the port or before the memory start is complete (R128, R129). The offers: SCAN the 96 bytes of the
next tile column of the line being fetched (R115, R120); a camera the next burst of its oldest pending line (R56);
COMP by stage, STORE, SAMPLE, FETCH, then the run of the tile at the tile index or the run after it, and nothing in
IDLE (R130); AUX the job's or the verification's next burst, with both the one not served last (R131). A run is cut
into bursts of 256 bytes, the last of the rest, in ascending order (R129). The addresses rest on log 4. -/
def Obligations.GrantFollowsTheOrder : Prop :=
  (∀ s : State, s.arb.port ≠ none ∨ s.memStart ≠ .complete → arbitrate s = s) ∧
  (∀ s : State, s.arb.port = none → s.memStart = .complete → s.Takes →
    (∀ b, scanOffer s.out = some b → arbitrate s = s.setArb { s.arb with port := some b }) ∧
    (scanOffer s.out = none →
      (∀ (d : Fin 4) (b : Burst), camOffer s (s.arb.lastCam + 1 + d) = some b →
        (∀ d' : Fin 4, d' < d → camOffer s (s.arb.lastCam + 1 + d') = none) →
        arbitrate s = s.setArb { s.arb with port := some b, lastCam := s.arb.lastCam + 1 + d }) ∧
      ((∀ c : Fin 4, camOffer s c = none) →
        (∀ b, compOffer s = some b → arbitrate s = s.setArb { s.arb with port := some b }) ∧
        (compOffer s = none →
          (∀ b src, auxOffer s = some (b, src) →
            arbitrate s = s.setArb { s.arb with port := some b, auxLast := src }) ∧
          (auxOffer s = none → arbitrate s = s))))) ∧
  (∀ (o : Output), (o.source = none ∨ (∀ x ∈ o.places, x.dropped = true ∨ 1536 ≤ x.got.length) →
      scanOffer o = none) ∧
    (∀ (k : Fin 3) (l r : List LinePlace) (p : LinePlace), o.source = some k → o.places = l ++ p :: r →
      (∀ x ∈ l, x.dropped = true ∨ 1536 ≤ x.got.length) → p.dropped = false → p.got.length < 1536 →
      scanOffer o = some ⟨.scan p.line,
        outAddr k + 3072 * ((p.line / 32) * 16 + p.got.length / 96) + 96 * (p.line % 32), 96, none, true⟩)) ∧
  (∀ (s : State) (c : Fin 4), (s.cams[c].fifo = [] → camOffer s c = none) ∧
    (∀ (l : PendingLine) (rest : List PendingLine), s.cams[c].fifo = l :: rest →
      let n := min 256 (l.data.length - l.written)
      camOffer s c = some
        ⟨.camera c, ringAddr c l.slot + 3840 * l.row + l.written, n, some (slice l.data l.written n), true⟩)) ∧
  (∀ s : State, (s.comp.state = .idle → compOffer s = none) ∧
    (s.comp.state ≠ .idle →
      (∀ t px n, s.comp.store = some ⟨t, px, n⟩ → n < 3072 → compOffer s = some ⟨.store,
        outAddr t.slot + 3072 * t.index + n, min 256 (3072 - n), some (slice px n 256), true⟩) ∧
      ((∀ st, s.comp.store = some st → 3072 ≤ st.written) →
        (∀ t f r todo g px, s.comp.sample = some ⟨t, f, r :: todo, g, px⟩ →
          compOffer s = some ⟨.sample, r.addr, r.len, none, true⟩) ∧
        ((∀ x, s.comp.sample = some x → x.todo = []) →
          (∀ t r todo g, s.comp.fetch = some ⟨t, r :: todo, g⟩ →
            compOffer s = some ⟨.fetch, r.addr, r.len, none, true⟩) ∧
          ((∀ x, s.comp.fetch = some x → x.todo = []) →
            let m := s.comp.index / 64
            let kept := fun n => ∃ r ∈ s.comp.mapRuns, r.run = n
            let reads := s.comp.state = .issuing ∨ s.comp.state = .waiting
            (∀ pair, s.active.pair = some pair → reads → s.comp.index < 384 →
              let run := fun n : Nat => (⟨.tileMap n, bankAddr pair.low + 107185 + 256 * n, 256, none, true⟩ : Burst)
              (¬ kept m → compOffer s = some (run m)) ∧
              (kept m → m < 5 → ¬ kept (m + 1) → compOffer s = some (run (m + 1))) ∧
              (kept m → m = 5 ∨ kept (m + 1) → compOffer s = none)) ∧
            (¬ reads ∨ 384 ≤ s.comp.index → compOffer s = none)))))) ∧
  (∀ s : State,
    (∀ j, s.slot = some j →
      let n := min 256 (j.work.run.len - j.moved)
      j.work.run = (match j.work with
        | .bankFill b => ⟨bankAddr b, 108721⟩
        | .bankWrite b c off data => ⟨bankAddr b + sectionOffset c.val + off, data.length⟩
        | .bankRead b c off len => ⟨bankAddr b + sectionOffset c.val + off, len⟩
        | .bodyWrite t off data => ⟨bodyBase + 3072 * t.val + off, data.length⟩) ∧
      (j.moved < j.work.run.len → jobOffer s = some ⟨.job, j.work.run.addr + j.moved, n, match j.work with
        | .bankFill _ => some ((List.range n).map fun i => if j.moved + i < 100880 then 0xFF#8 else 0#8)
        | .bankWrite _ _ _ data => some (slice data j.moved n)
        | .bankRead _ _ _ _ => none
        | .bodyWrite _ _ data => some (slice data j.moved n), true⟩) ∧
      (j.work.run.len ≤ j.moved → jobOffer s = none)) ∧
    (s.slot = none → jobOffer s = none) ∧ (s.banks.engine = none → verifyOffer s = none) ∧
    (∀ e, s.banks.engine = some e →
      (e.bytes.length < 108721 → verifyOffer s = some ⟨.verify, bankAddr e.bank + e.bytes.length,
        min 256 (108721 - e.bytes.length), none, true⟩) ∧
      (108721 ≤ e.bytes.length → verifyOffer s = none)) ∧
    (∀ j v, jobOffer s = some j → verifyOffer s = some v → auxOffer s = match s.arb.auxLast with
      | .job => some (v, .verify)
      | .verify => some (j, .job)) ∧
    (∀ j, jobOffer s = some j → verifyOffer s = none → auxOffer s = some (j, .job)) ∧
    (∀ v, jobOffer s = none → verifyOffer s = some v → auxOffer s = some (v, .verify)) ∧
    (jobOffer s = none → verifyOffer s = none → auxOffer s = none)) ∧
  (∀ (r : Run) (m : List Host.Cell), r.cut.length = (r.len + 255) / 256 ∧
    (∀ i < (r.len + 255) / 256, r.cut[i]? = some ⟨r.addr + 256 * i, min 256 (r.len - 256 * i)⟩) ∧
    (r.cut.flatMap fun x => Memory.readRun m x.addr x.len) = Memory.readRun m r.addr r.len)

/-! ### Laws that every command keeps -/

/-- The DRAM stays in its canonical form: cells in rising order, none equal to what an unlisted address reads as, which
is the model's own choice (log 5). -/
def Obligations.EveryStepKeepsTheMemoryCanonical : Prop :=
  ∀ s t : State, s.MemoryLaw → step s = .next t → t.MemoryLaw

/-- The queue occupancy never exceeds 16, and the memory start of a pin reset finds the part quiet with at most 13
replies held (R151, R128, R140). -/
def Obligations.EveryStepKeepsTheQueueWithinSixteen : Prop :=
  ∀ s t : State, s.QueueLaw → step s = .next t → t.QueueLaw

/-- Every gain of both parameter sets stays in 128 to 512, the cadence counter below its period, and every timing in
the ranges of R69 (R76, R68). -/
def Obligations.EveryStepKeepsGainsAndTimingInRange : Prop :=
  ∀ s t : State, s.GainLaw → s.CadenceLaw → step s = .next t → t.GainLaw ∧ t.CadenceLaw

/-- Every bank listed in a height table stays READY, all banks of one table with one digest, and the verify queue
holds exactly the VERIFYING banks, each once (R36, R30). -/
def Obligations.EveryStepKeepsListedBanksReady : Prop :=
  ∀ s t : State, s.TableLaw → step s = .next t → t.TableLaw

/-- Each frame ring holds at most one FILLING and at most one IN_USE slot (R60). -/
def Obligations.EveryStepKeepsOneFillingAndOneInUse : Prop :=
  ∀ s t : State, s.RingLaw → step s = .next t → t.RingLaw

/-- At most one output slot is COMPOSING, PUBLISHED or SCANNING each, and a composition start always finds a FREE
slot and a height table, so that no mark stops the part (R115, R84, R135). -/
def Obligations.EveryStepKeepsTheSlotsAndNoMarkStops : Prop :=
  ∀ s : State, s.SlotLaw →
    (∀ t : State, step s = .next t → t.SlotLaw) ∧ (∃ t : State, exec .cadenceMark s = .next t)

/-- The counts of FRESH, HELD and FILLED tiles sum to the tiles issued, in every frame record too, which has 384
when PUBLISHED; a tile is left to issue in ISSUING and WAITING and none in DRAINING; the history holds at most 8
records (R83, R94, R96, R103, R104). -/
def Obligations.EveryStepKeepsTheTreatmentCounts : Prop :=
  ∀ s t : State, s.CountLaw → step s = .next t → t.CountLaw

/-- All of these laws hold right after a pin reset. -/
def Obligations.TheLawsHoldAtReset : Prop :=
  State.reset.MemoryLaw ∧ State.reset.QueueLaw ∧ State.reset.GainLaw ∧ State.reset.CadenceLaw ∧
  State.reset.TableLaw ∧ State.reset.RingLaw ∧ State.reset.SlotLaw ∧ State.reset.CountLaw

/-! ### Pixel arithmetic (Section 1) -/

/-- The bank pair and f: the first entry's bank with f = 0 at or below its key, the last entry's at or above the
last key, and between two keys both banks with f = (h − kᵢ) × 256 div (kᵢ₊₁ − kᵢ), below 256 (R4). -/
def Obligations.BankPairFollowsTheHeight : Prop :=
  ∀ (h : Int) (es : List TableEntry), (es.map TableEntry.key).Pairwise (· < ·) →
    (∀ e rest, es = e :: rest → rest = [] ∨ h ≤ e.key → pairOf h es = some ⟨e.bank, e.bank, 0⟩) ∧
    (∀ e es', es = es' ++ [e] → e.key ≤ h → pairOf h es = some ⟨e.bank, e.bank, 0⟩) ∧
    (∀ l r e e', es = l ++ e :: e' :: r → e.key ≤ h → h < e'.key → (l = [] → e.key < h) →
      ∃ f : Nat, (f : Int) = (h - e.key) * 256 / (e'.key - e.key) ∧ f < 256 ∧
        pairOf h es = some ⟨e.bank, e'.bank, f⟩)

/-- Height interpolation adds floor((d × f + 128) / 256), rounded toward minus infinity, gives lo at f = 0 and for one
bank, stays between the two banks' values and within the range of stored points (R6). A stored u of 65535 is NONE,
whatever its v; a point is NONE as soon as either bank's is, and u and v are interpolated separately (R7). The 25
points of a view, and the 25 weights of a BLEND tile by the same formula and within a byte (R8), are interpolated from
the bytes that FETCH read of the low and the high bank, or of the one bank twice. -/
def Obligations.HeightInterpolationStaysBetweenTheBanks : Prop :=
  (∀ (lo hi f : Nat), f ≤ 255 →
    (heightInterp lo hi f : Int) = lo + Int.fdiv ((hi - lo) * f + 128) 256 ∧
    heightInterp lo hi 0 = lo ∧ heightInterp lo lo f = lo ∧
    (lo ≤ hi → lo ≤ heightInterp lo hi f ∧ heightInterp lo hi f ≤ hi) ∧
    (hi ≤ lo → hi ≤ heightInterp lo hi f ∧ heightInterp lo hi f ≤ lo) ∧
    (∀ m, lo ≤ m → hi ≤ m → heightInterp lo hi f ≤ m) ∧
    (∀ (bs : List Byte) (i : Nat), pointAt bs i =
      if ofLe (slice bs i 2) = 65535 then none else some (ofLe (slice bs i 2), ofLe (slice bs (i + 2) 2))) ∧
    (∀ v v' : Nat, pointInterp (some (lo, v)) (some (hi, v')) f = some (heightInterp lo hi f, heightInterp v v' f)) ∧
    (∀ p, pointInterp none p f = none ∧ pointInterp p none f = none)) ∧
  (∀ (t : Tile) (fetched : List Byte) (i k : Nat), k < 25 →
    let one := t.pair.low = t.pair.high
    let mesh := if one then 100 else 200
    let p := mesh * i + 4 * k
    let w := mesh * t.views.length + k
    (t.points fetched i).getD k none =
      pointInterp (pointAt fetched p) (pointAt fetched (if one then p else p + 100)) t.pair.f ∧
    (t.weights fetched).getD k 0 =
      heightInterp (byteAt fetched w).toNat (byteAt fetched (if one then w else w + 25)).toNat t.pair.f ∧
    (t.pair.f ≤ 255 → (t.weights fetched).getD k 0 ≤ 255))

/-- Mesh interpolation: a pixel has a view just when none of its cell's four corners is NONE, whatever their
weights; each coordinate is the weighted mean of the corners, rounded half up, lies between the smallest and the
largest corner, and is the corner's own on a control point (R9). The pixel weight of a BLEND tile is the same mean of
the cell's four weights, so it lies in 0 to 255 (R10). -/
def Obligations.SourcePositionLiesBetweenTheCorners : Prop :=
  ∀ (pts : List (Option (Nat × Nat))) (x y : Nat), x < 32 → y < 32 →
    let k := (y / 8) * 5 + x / 8
    let a := x % 8
    let b := y % 8
    (sourcePos pts x y = none ↔ pts.getD k none = none ∨ pts.getD (k + 1) none = none ∨
      pts.getD (k + 5) none = none ∨ pts.getD (k + 6) none = none) ∧
    (∀ u00 v00 u10 v10 u01 v01 u11 v11 : Nat, pts.getD k none = some (u00, v00) →
      pts.getD (k + 1) none = some (u10, v10) → pts.getD (k + 5) none = some (u01, v01) →
      pts.getD (k + 6) none = some (u11, v11) →
      ∃ u v : Nat, sourcePos pts x y = some (u, v) ∧
        u = (u00 * ((8 - a) * (8 - b)) + u10 * (a * (8 - b)) + u01 * ((8 - a) * b) + u11 * (a * b) + 32) / 64 ∧
        v = (v00 * ((8 - a) * (8 - b)) + v10 * (a * (8 - b)) + v01 * ((8 - a) * b) + v11 * (a * b) + 32) / 64 ∧
        min (min u00 u10) (min u01 u11) ≤ u ∧ u ≤ max (max u00 u10) (max u01 u11) ∧
        min (min v00 v10) (min v01 v11) ≤ v ∧ v ≤ max (max v00 v10) (max v01 v11) ∧
        (a = 0 → b = 0 → u = u00 ∧ v = v00)) ∧
    (∀ ws : List Nat,
      let w := pixelWeight ws x y
      let w00 := ws.getD k 0
      let w10 := ws.getD (k + 1) 0
      let w01 := ws.getD (k + 5) 0
      let w11 := ws.getD (k + 6) 0
      w = (w00 * ((8 - a) * (8 - b)) + w10 * (a * (8 - b)) + w01 * ((8 - a) * b) + w11 * (a * b) + 32) / 64 ∧
      min (min w00 w10) (min w01 w11) ≤ w ∧ w ≤ max (max w00 w10) (max w01 w11) ∧
      ((∀ v ∈ ws, v ≤ 255) → w ≤ 255))

/-- Sampling, gain and blend stay within a byte without a wrap: the sample is the weighted mean of the four source
pixels, with the same fractions for Y, Cb and Cr, and P00 at s = t = 0; the gain saturates at 255 and leaves Y
unchanged at 256; a blended component is the weighted mean of the two cameras' and lies between them (R13, R14, R16).
From the bytes that SAMPLE read of a camera's frame, a pixel of that camera is made of the frame's pixels at column p
and p + 1 of row q and q + 1, each number clamped to the last column or row of the selection's frame size (R12); a
camera that is not available has no pixel (R11; the place of a frame in DRAM is log 4). -/
def Obligations.SampleGainAndBlendStayInRange : Prop :=
  (∀ (s t : Nat) (p00 p10 p01 p11 : Byte), s < 16 → t < 16 →
    sampleMix s t p00.toNat p10.toNat p01.toNat p11.toNat =
      (p00.toNat * ((16 - s) * (16 - t)) + p10.toNat * (s * (16 - t)) + p01.toNat * ((16 - s) * t) +
        p11.toNat * (s * t) + 128) / 256 ∧
    sampleMix s t p00.toNat p10.toNat p01.toNat p11.toNat < 256 ∧
    sampleMix 0 0 p00.toNat p10.toNat p01.toNat p11.toNat = p00.toNat ∧
    sampleMix s t p00.toNat p00.toNat p00.toNat p00.toNat = p00.toNat) ∧
  (∀ (s t : Nat) (a b c d : Pixel), s < 16 → t < 16 →
    (samplePixel s t a b c d).y.toNat = sampleMix s t a.y.toNat b.y.toNat c.y.toNat d.y.toNat ∧
    (samplePixel s t a b c d).cb.toNat = sampleMix s t a.cb.toNat b.cb.toNat c.cb.toNat d.cb.toNat ∧
    (samplePixel s t a b c d).cr.toNat = sampleMix s t a.cr.toNat b.cr.toNat c.cr.toNat d.cr.toNat) ∧
  (∀ (gain : Nat) (p : Pixel), 128 ≤ gain → gain ≤ 512 →
    (postGain gain p).y.toNat = min 255 ((p.y.toNat * gain + 128) / 256) ∧
    (postGain gain p).cb = p.cb ∧ (postGain gain p).cr = p.cr ∧ postGain 256 p = p) ∧
  (∀ (w : Nat) (pri sec : Pixel), w < 256 →
    let mix := fun a b : Byte => (a.toNat * (256 - w) + b.toNat * w + 128) / 256
    (blendPixel w pri sec).y.toNat = mix pri.y sec.y ∧ (blendPixel w pri sec).cb.toNat = mix pri.cb sec.cb ∧
    (blendPixel w pri sec).cr.toNat = mix pri.cr sec.cr ∧
    min pri.y.toNat sec.y.toNat ≤ mix pri.y sec.y ∧ mix pri.y sec.y ≤ max pri.y.toNat sec.y.toNat ∧
    blendPixel 0 pri sec = pri) ∧
  (∀ (t : Tile) (fetched : List Byte) (m : List Host.Cell) (gains : Vector Nat 4) (x y : Nat),
    t.fromCameras = true → (t.views.map View.cam).Nodup → x < 32 → y < 32 →
    let got := (t.sampleRuns fetched).flatMap fun r => Memory.readRun m r.addr r.len
    let pixel := fun c : Fin 4 => cameraPixel (t.viewData fetched t.views.zipIdx got) gains c x y
    (∀ c, c ∉ t.views.map View.cam → pixel c = none) ∧
    (∀ (i : Nat) (v : View), t.views[i]? = some v →
      let at' := fun p q : Nat =>
        let a := ringAddr v.cam v.answer.slot + 3840 * min q (v.answer.height - 1) + 3 * min p (v.answer.width - 1)
        (⟨Memory.read m a, Memory.read m (a + 1), Memory.read m (a + 2)⟩ : Pixel)
      (sourcePos (t.points fetched i) x y = none → pixel v.cam = none) ∧
      (∀ u w, sourcePos (t.points fetched i) x y = some (u, w) →
        let p := u / 16
        let q := w / 16
        pixel v.cam = some (postGain gains[v.cam] (samplePixel (u % 16) (w % 16)
          (at' p q) (at' (p + 1) q) (at' p (q + 1)) (at' (p + 1) (q + 1)))))))
end

