-- ==== Sys2Proof/Laws/State.lean ====
section
/-! SUPPORT. What each update of a field leaves in each field of `State`: one lemma per field per update, true
by `rfl`, so that no proof unfolds a record update. -/

namespace Sys2Proof.Machine

section setPending
variable (s : State) (v : List Instr)
@[simp] theorem State.setPending_pending : (s.setPending v).pending = v := rfl
@[simp] theorem State.setPending_ties : (s.setPending v).ties = s.ties := rfl
@[simp] theorem State.setPending_resetAsserted : (s.setPending v).resetAsserted = s.resetAsserted := rfl
@[simp] theorem State.setPending_memStart : (s.setPending v).memStart = s.memStart := rfl
@[simp] theorem State.setPending_link : (s.setPending v).link = s.link := rfl
@[simp] theorem State.setPending_slot : (s.setPending v).slot = s.slot := rfl
@[simp] theorem State.setPending_stopOwed : (s.setPending v).stopOwed = s.stopOwed := rfl
@[simp] theorem State.setPending_cams : (s.setPending v).cams = s.cams := rfl
@[simp] theorem State.setPending_timer : (s.setPending v).timer = s.timer := rfl
@[simp] theorem State.setPending_staged : (s.setPending v).staged = s.staged := rfl
@[simp] theorem State.setPending_active : (s.setPending v).active = s.active := rfl
@[simp] theorem State.setPending_top : (s.setPending v).top = s.top := rfl
@[simp] theorem State.setPending_banks : (s.setPending v).banks = s.banks := rfl
@[simp] theorem State.setPending_comp : (s.setPending v).comp = s.comp := rfl
@[simp] theorem State.setPending_zones : (s.setPending v).zones = s.zones := rfl
@[simp] theorem State.setPending_out : (s.setPending v).out = s.out := rfl
@[simp] theorem State.setPending_arb : (s.setPending v).arb = s.arb := rfl
@[simp] theorem State.setPending_mem : (s.setPending v).mem = s.mem := rfl
end setPending

section setTies
variable (s : State) (v : Nat)
@[simp] theorem State.setTies_pending : (s.setTies v).pending = s.pending := rfl
@[simp] theorem State.setTies_ties : (s.setTies v).ties = v := rfl
@[simp] theorem State.setTies_resetAsserted : (s.setTies v).resetAsserted = s.resetAsserted := rfl
@[simp] theorem State.setTies_memStart : (s.setTies v).memStart = s.memStart := rfl
@[simp] theorem State.setTies_link : (s.setTies v).link = s.link := rfl
@[simp] theorem State.setTies_slot : (s.setTies v).slot = s.slot := rfl
@[simp] theorem State.setTies_stopOwed : (s.setTies v).stopOwed = s.stopOwed := rfl
@[simp] theorem State.setTies_cams : (s.setTies v).cams = s.cams := rfl
@[simp] theorem State.setTies_timer : (s.setTies v).timer = s.timer := rfl
@[simp] theorem State.setTies_staged : (s.setTies v).staged = s.staged := rfl
@[simp] theorem State.setTies_active : (s.setTies v).active = s.active := rfl
@[simp] theorem State.setTies_top : (s.setTies v).top = s.top := rfl
@[simp] theorem State.setTies_banks : (s.setTies v).banks = s.banks := rfl
@[simp] theorem State.setTies_comp : (s.setTies v).comp = s.comp := rfl
@[simp] theorem State.setTies_zones : (s.setTies v).zones = s.zones := rfl
@[simp] theorem State.setTies_out : (s.setTies v).out = s.out := rfl
@[simp] theorem State.setTies_arb : (s.setTies v).arb = s.arb := rfl
@[simp] theorem State.setTies_mem : (s.setTies v).mem = s.mem := rfl
end setTies

section setResetAsserted
variable (s : State) (v : Bool)
@[simp] theorem State.setResetAsserted_pending : (s.setResetAsserted v).pending = s.pending := rfl
@[simp] theorem State.setResetAsserted_ties : (s.setResetAsserted v).ties = s.ties := rfl
@[simp] theorem State.setResetAsserted_resetAsserted : (s.setResetAsserted v).resetAsserted = v := rfl
@[simp] theorem State.setResetAsserted_memStart : (s.setResetAsserted v).memStart = s.memStart := rfl
@[simp] theorem State.setResetAsserted_link : (s.setResetAsserted v).link = s.link := rfl
@[simp] theorem State.setResetAsserted_slot : (s.setResetAsserted v).slot = s.slot := rfl
@[simp] theorem State.setResetAsserted_stopOwed : (s.setResetAsserted v).stopOwed = s.stopOwed := rfl
@[simp] theorem State.setResetAsserted_cams : (s.setResetAsserted v).cams = s.cams := rfl
@[simp] theorem State.setResetAsserted_timer : (s.setResetAsserted v).timer = s.timer := rfl
@[simp] theorem State.setResetAsserted_staged : (s.setResetAsserted v).staged = s.staged := rfl
@[simp] theorem State.setResetAsserted_active : (s.setResetAsserted v).active = s.active := rfl
@[simp] theorem State.setResetAsserted_top : (s.setResetAsserted v).top = s.top := rfl
@[simp] theorem State.setResetAsserted_banks : (s.setResetAsserted v).banks = s.banks := rfl
@[simp] theorem State.setResetAsserted_comp : (s.setResetAsserted v).comp = s.comp := rfl
@[simp] theorem State.setResetAsserted_zones : (s.setResetAsserted v).zones = s.zones := rfl
@[simp] theorem State.setResetAsserted_out : (s.setResetAsserted v).out = s.out := rfl
@[simp] theorem State.setResetAsserted_arb : (s.setResetAsserted v).arb = s.arb := rfl
@[simp] theorem State.setResetAsserted_mem : (s.setResetAsserted v).mem = s.mem := rfl
end setResetAsserted

section setMemStart
variable (s : State) (v : MemStart)
@[simp] theorem State.setMemStart_pending : (s.setMemStart v).pending = s.pending := rfl
@[simp] theorem State.setMemStart_ties : (s.setMemStart v).ties = s.ties := rfl
@[simp] theorem State.setMemStart_resetAsserted : (s.setMemStart v).resetAsserted = s.resetAsserted := rfl
@[simp] theorem State.setMemStart_memStart : (s.setMemStart v).memStart = v := rfl
@[simp] theorem State.setMemStart_link : (s.setMemStart v).link = s.link := rfl
@[simp] theorem State.setMemStart_slot : (s.setMemStart v).slot = s.slot := rfl
@[simp] theorem State.setMemStart_stopOwed : (s.setMemStart v).stopOwed = s.stopOwed := rfl
@[simp] theorem State.setMemStart_cams : (s.setMemStart v).cams = s.cams := rfl
@[simp] theorem State.setMemStart_timer : (s.setMemStart v).timer = s.timer := rfl
@[simp] theorem State.setMemStart_staged : (s.setMemStart v).staged = s.staged := rfl
@[simp] theorem State.setMemStart_active : (s.setMemStart v).active = s.active := rfl
@[simp] theorem State.setMemStart_top : (s.setMemStart v).top = s.top := rfl
@[simp] theorem State.setMemStart_banks : (s.setMemStart v).banks = s.banks := rfl
@[simp] theorem State.setMemStart_comp : (s.setMemStart v).comp = s.comp := rfl
@[simp] theorem State.setMemStart_zones : (s.setMemStart v).zones = s.zones := rfl
@[simp] theorem State.setMemStart_out : (s.setMemStart v).out = s.out := rfl
@[simp] theorem State.setMemStart_arb : (s.setMemStart v).arb = s.arb := rfl
@[simp] theorem State.setMemStart_mem : (s.setMemStart v).mem = s.mem := rfl
end setMemStart

section setLink
variable (s : State) (v : Link)
@[simp] theorem State.setLink_pending : (s.setLink v).pending = s.pending := rfl
@[simp] theorem State.setLink_ties : (s.setLink v).ties = s.ties := rfl
@[simp] theorem State.setLink_resetAsserted : (s.setLink v).resetAsserted = s.resetAsserted := rfl
@[simp] theorem State.setLink_memStart : (s.setLink v).memStart = s.memStart := rfl
@[simp] theorem State.setLink_link : (s.setLink v).link = v := rfl
@[simp] theorem State.setLink_slot : (s.setLink v).slot = s.slot := rfl
@[simp] theorem State.setLink_stopOwed : (s.setLink v).stopOwed = s.stopOwed := rfl
@[simp] theorem State.setLink_cams : (s.setLink v).cams = s.cams := rfl
@[simp] theorem State.setLink_timer : (s.setLink v).timer = s.timer := rfl
@[simp] theorem State.setLink_staged : (s.setLink v).staged = s.staged := rfl
@[simp] theorem State.setLink_active : (s.setLink v).active = s.active := rfl
@[simp] theorem State.setLink_top : (s.setLink v).top = s.top := rfl
@[simp] theorem State.setLink_banks : (s.setLink v).banks = s.banks := rfl
@[simp] theorem State.setLink_comp : (s.setLink v).comp = s.comp := rfl
@[simp] theorem State.setLink_zones : (s.setLink v).zones = s.zones := rfl
@[simp] theorem State.setLink_out : (s.setLink v).out = s.out := rfl
@[simp] theorem State.setLink_arb : (s.setLink v).arb = s.arb := rfl
@[simp] theorem State.setLink_mem : (s.setLink v).mem = s.mem := rfl
end setLink

section setSlot
variable (s : State) (v : Option Job)
@[simp] theorem State.setSlot_pending : (s.setSlot v).pending = s.pending := rfl
@[simp] theorem State.setSlot_ties : (s.setSlot v).ties = s.ties := rfl
@[simp] theorem State.setSlot_resetAsserted : (s.setSlot v).resetAsserted = s.resetAsserted := rfl
@[simp] theorem State.setSlot_memStart : (s.setSlot v).memStart = s.memStart := rfl
@[simp] theorem State.setSlot_link : (s.setSlot v).link = s.link := rfl
@[simp] theorem State.setSlot_slot : (s.setSlot v).slot = v := rfl
@[simp] theorem State.setSlot_stopOwed : (s.setSlot v).stopOwed = s.stopOwed := rfl
@[simp] theorem State.setSlot_cams : (s.setSlot v).cams = s.cams := rfl
@[simp] theorem State.setSlot_timer : (s.setSlot v).timer = s.timer := rfl
@[simp] theorem State.setSlot_staged : (s.setSlot v).staged = s.staged := rfl
@[simp] theorem State.setSlot_active : (s.setSlot v).active = s.active := rfl
@[simp] theorem State.setSlot_top : (s.setSlot v).top = s.top := rfl
@[simp] theorem State.setSlot_banks : (s.setSlot v).banks = s.banks := rfl
@[simp] theorem State.setSlot_comp : (s.setSlot v).comp = s.comp := rfl
@[simp] theorem State.setSlot_zones : (s.setSlot v).zones = s.zones := rfl
@[simp] theorem State.setSlot_out : (s.setSlot v).out = s.out := rfl
@[simp] theorem State.setSlot_arb : (s.setSlot v).arb = s.arb := rfl
@[simp] theorem State.setSlot_mem : (s.setSlot v).mem = s.mem := rfl
end setSlot

section setStopOwed
variable (s : State) (v : Option Byte)
@[simp] theorem State.setStopOwed_pending : (s.setStopOwed v).pending = s.pending := rfl
@[simp] theorem State.setStopOwed_ties : (s.setStopOwed v).ties = s.ties := rfl
@[simp] theorem State.setStopOwed_resetAsserted : (s.setStopOwed v).resetAsserted = s.resetAsserted := rfl
@[simp] theorem State.setStopOwed_memStart : (s.setStopOwed v).memStart = s.memStart := rfl
@[simp] theorem State.setStopOwed_link : (s.setStopOwed v).link = s.link := rfl
@[simp] theorem State.setStopOwed_slot : (s.setStopOwed v).slot = s.slot := rfl
@[simp] theorem State.setStopOwed_stopOwed : (s.setStopOwed v).stopOwed = v := rfl
@[simp] theorem State.setStopOwed_cams : (s.setStopOwed v).cams = s.cams := rfl
@[simp] theorem State.setStopOwed_timer : (s.setStopOwed v).timer = s.timer := rfl
@[simp] theorem State.setStopOwed_staged : (s.setStopOwed v).staged = s.staged := rfl
@[simp] theorem State.setStopOwed_active : (s.setStopOwed v).active = s.active := rfl
@[simp] theorem State.setStopOwed_top : (s.setStopOwed v).top = s.top := rfl
@[simp] theorem State.setStopOwed_banks : (s.setStopOwed v).banks = s.banks := rfl
@[simp] theorem State.setStopOwed_comp : (s.setStopOwed v).comp = s.comp := rfl
@[simp] theorem State.setStopOwed_zones : (s.setStopOwed v).zones = s.zones := rfl
@[simp] theorem State.setStopOwed_out : (s.setStopOwed v).out = s.out := rfl
@[simp] theorem State.setStopOwed_arb : (s.setStopOwed v).arb = s.arb := rfl
@[simp] theorem State.setStopOwed_mem : (s.setStopOwed v).mem = s.mem := rfl
end setStopOwed

section setCams
variable (s : State) (v : Vector Camera 4)
@[simp] theorem State.setCams_pending : (s.setCams v).pending = s.pending := rfl
@[simp] theorem State.setCams_ties : (s.setCams v).ties = s.ties := rfl
@[simp] theorem State.setCams_resetAsserted : (s.setCams v).resetAsserted = s.resetAsserted := rfl
@[simp] theorem State.setCams_memStart : (s.setCams v).memStart = s.memStart := rfl
@[simp] theorem State.setCams_link : (s.setCams v).link = s.link := rfl
@[simp] theorem State.setCams_slot : (s.setCams v).slot = s.slot := rfl
@[simp] theorem State.setCams_stopOwed : (s.setCams v).stopOwed = s.stopOwed := rfl
@[simp] theorem State.setCams_cams : (s.setCams v).cams = v := rfl
@[simp] theorem State.setCams_timer : (s.setCams v).timer = s.timer := rfl
@[simp] theorem State.setCams_staged : (s.setCams v).staged = s.staged := rfl
@[simp] theorem State.setCams_active : (s.setCams v).active = s.active := rfl
@[simp] theorem State.setCams_top : (s.setCams v).top = s.top := rfl
@[simp] theorem State.setCams_banks : (s.setCams v).banks = s.banks := rfl
@[simp] theorem State.setCams_comp : (s.setCams v).comp = s.comp := rfl
@[simp] theorem State.setCams_zones : (s.setCams v).zones = s.zones := rfl
@[simp] theorem State.setCams_out : (s.setCams v).out = s.out := rfl
@[simp] theorem State.setCams_arb : (s.setCams v).arb = s.arb := rfl
@[simp] theorem State.setCams_mem : (s.setCams v).mem = s.mem := rfl
end setCams

section setTimer
variable (s : State) (v : Timer)
@[simp] theorem State.setTimer_pending : (s.setTimer v).pending = s.pending := rfl
@[simp] theorem State.setTimer_ties : (s.setTimer v).ties = s.ties := rfl
@[simp] theorem State.setTimer_resetAsserted : (s.setTimer v).resetAsserted = s.resetAsserted := rfl
@[simp] theorem State.setTimer_memStart : (s.setTimer v).memStart = s.memStart := rfl
@[simp] theorem State.setTimer_link : (s.setTimer v).link = s.link := rfl
@[simp] theorem State.setTimer_slot : (s.setTimer v).slot = s.slot := rfl
@[simp] theorem State.setTimer_stopOwed : (s.setTimer v).stopOwed = s.stopOwed := rfl
@[simp] theorem State.setTimer_cams : (s.setTimer v).cams = s.cams := rfl
@[simp] theorem State.setTimer_timer : (s.setTimer v).timer = v := rfl
@[simp] theorem State.setTimer_staged : (s.setTimer v).staged = s.staged := rfl
@[simp] theorem State.setTimer_active : (s.setTimer v).active = s.active := rfl
@[simp] theorem State.setTimer_top : (s.setTimer v).top = s.top := rfl
@[simp] theorem State.setTimer_banks : (s.setTimer v).banks = s.banks := rfl
@[simp] theorem State.setTimer_comp : (s.setTimer v).comp = s.comp := rfl
@[simp] theorem State.setTimer_zones : (s.setTimer v).zones = s.zones := rfl
@[simp] theorem State.setTimer_out : (s.setTimer v).out = s.out := rfl
@[simp] theorem State.setTimer_arb : (s.setTimer v).arb = s.arb := rfl
@[simp] theorem State.setTimer_mem : (s.setTimer v).mem = s.mem := rfl
end setTimer

section setStaged
variable (s : State) (v : Params)
@[simp] theorem State.setStaged_pending : (s.setStaged v).pending = s.pending := rfl
@[simp] theorem State.setStaged_ties : (s.setStaged v).ties = s.ties := rfl
@[simp] theorem State.setStaged_resetAsserted : (s.setStaged v).resetAsserted = s.resetAsserted := rfl
@[simp] theorem State.setStaged_memStart : (s.setStaged v).memStart = s.memStart := rfl
@[simp] theorem State.setStaged_link : (s.setStaged v).link = s.link := rfl
@[simp] theorem State.setStaged_slot : (s.setStaged v).slot = s.slot := rfl
@[simp] theorem State.setStaged_stopOwed : (s.setStaged v).stopOwed = s.stopOwed := rfl
@[simp] theorem State.setStaged_cams : (s.setStaged v).cams = s.cams := rfl
@[simp] theorem State.setStaged_timer : (s.setStaged v).timer = s.timer := rfl
@[simp] theorem State.setStaged_staged : (s.setStaged v).staged = v := rfl
@[simp] theorem State.setStaged_active : (s.setStaged v).active = s.active := rfl
@[simp] theorem State.setStaged_top : (s.setStaged v).top = s.top := rfl
@[simp] theorem State.setStaged_banks : (s.setStaged v).banks = s.banks := rfl
@[simp] theorem State.setStaged_comp : (s.setStaged v).comp = s.comp := rfl
@[simp] theorem State.setStaged_zones : (s.setStaged v).zones = s.zones := rfl
@[simp] theorem State.setStaged_out : (s.setStaged v).out = s.out := rfl
@[simp] theorem State.setStaged_arb : (s.setStaged v).arb = s.arb := rfl
@[simp] theorem State.setStaged_mem : (s.setStaged v).mem = s.mem := rfl
end setStaged

section setActive
variable (s : State) (v : Params)
@[simp] theorem State.setActive_pending : (s.setActive v).pending = s.pending := rfl
@[simp] theorem State.setActive_ties : (s.setActive v).ties = s.ties := rfl
@[simp] theorem State.setActive_resetAsserted : (s.setActive v).resetAsserted = s.resetAsserted := rfl
@[simp] theorem State.setActive_memStart : (s.setActive v).memStart = s.memStart := rfl
@[simp] theorem State.setActive_link : (s.setActive v).link = s.link := rfl
@[simp] theorem State.setActive_slot : (s.setActive v).slot = s.slot := rfl
@[simp] theorem State.setActive_stopOwed : (s.setActive v).stopOwed = s.stopOwed := rfl
@[simp] theorem State.setActive_cams : (s.setActive v).cams = s.cams := rfl
@[simp] theorem State.setActive_timer : (s.setActive v).timer = s.timer := rfl
@[simp] theorem State.setActive_staged : (s.setActive v).staged = s.staged := rfl
@[simp] theorem State.setActive_active : (s.setActive v).active = v := rfl
@[simp] theorem State.setActive_top : (s.setActive v).top = s.top := rfl
@[simp] theorem State.setActive_banks : (s.setActive v).banks = s.banks := rfl
@[simp] theorem State.setActive_comp : (s.setActive v).comp = s.comp := rfl
@[simp] theorem State.setActive_zones : (s.setActive v).zones = s.zones := rfl
@[simp] theorem State.setActive_out : (s.setActive v).out = s.out := rfl
@[simp] theorem State.setActive_arb : (s.setActive v).arb = s.arb := rfl
@[simp] theorem State.setActive_mem : (s.setActive v).mem = s.mem := rfl
end setActive

section setTop
variable (s : State) (v : Top)
@[simp] theorem State.setTop_pending : (s.setTop v).pending = s.pending := rfl
@[simp] theorem State.setTop_ties : (s.setTop v).ties = s.ties := rfl
@[simp] theorem State.setTop_resetAsserted : (s.setTop v).resetAsserted = s.resetAsserted := rfl
@[simp] theorem State.setTop_memStart : (s.setTop v).memStart = s.memStart := rfl
@[simp] theorem State.setTop_link : (s.setTop v).link = s.link := rfl
@[simp] theorem State.setTop_slot : (s.setTop v).slot = s.slot := rfl
@[simp] theorem State.setTop_stopOwed : (s.setTop v).stopOwed = s.stopOwed := rfl
@[simp] theorem State.setTop_cams : (s.setTop v).cams = s.cams := rfl
@[simp] theorem State.setTop_timer : (s.setTop v).timer = s.timer := rfl
@[simp] theorem State.setTop_staged : (s.setTop v).staged = s.staged := rfl
@[simp] theorem State.setTop_active : (s.setTop v).active = s.active := rfl
@[simp] theorem State.setTop_top : (s.setTop v).top = v := rfl
@[simp] theorem State.setTop_banks : (s.setTop v).banks = s.banks := rfl
@[simp] theorem State.setTop_comp : (s.setTop v).comp = s.comp := rfl
@[simp] theorem State.setTop_zones : (s.setTop v).zones = s.zones := rfl
@[simp] theorem State.setTop_out : (s.setTop v).out = s.out := rfl
@[simp] theorem State.setTop_arb : (s.setTop v).arb = s.arb := rfl
@[simp] theorem State.setTop_mem : (s.setTop v).mem = s.mem := rfl
end setTop

section setBanks
variable (s : State) (v : Banks)
@[simp] theorem State.setBanks_pending : (s.setBanks v).pending = s.pending := rfl
@[simp] theorem State.setBanks_ties : (s.setBanks v).ties = s.ties := rfl
@[simp] theorem State.setBanks_resetAsserted : (s.setBanks v).resetAsserted = s.resetAsserted := rfl
@[simp] theorem State.setBanks_memStart : (s.setBanks v).memStart = s.memStart := rfl
@[simp] theorem State.setBanks_link : (s.setBanks v).link = s.link := rfl
@[simp] theorem State.setBanks_slot : (s.setBanks v).slot = s.slot := rfl
@[simp] theorem State.setBanks_stopOwed : (s.setBanks v).stopOwed = s.stopOwed := rfl
@[simp] theorem State.setBanks_cams : (s.setBanks v).cams = s.cams := rfl
@[simp] theorem State.setBanks_timer : (s.setBanks v).timer = s.timer := rfl
@[simp] theorem State.setBanks_staged : (s.setBanks v).staged = s.staged := rfl
@[simp] theorem State.setBanks_active : (s.setBanks v).active = s.active := rfl
@[simp] theorem State.setBanks_top : (s.setBanks v).top = s.top := rfl
@[simp] theorem State.setBanks_banks : (s.setBanks v).banks = v := rfl
@[simp] theorem State.setBanks_comp : (s.setBanks v).comp = s.comp := rfl
@[simp] theorem State.setBanks_zones : (s.setBanks v).zones = s.zones := rfl
@[simp] theorem State.setBanks_out : (s.setBanks v).out = s.out := rfl
@[simp] theorem State.setBanks_arb : (s.setBanks v).arb = s.arb := rfl
@[simp] theorem State.setBanks_mem : (s.setBanks v).mem = s.mem := rfl
end setBanks

section setComp
variable (s : State) (v : Composer)
@[simp] theorem State.setComp_pending : (s.setComp v).pending = s.pending := rfl
@[simp] theorem State.setComp_ties : (s.setComp v).ties = s.ties := rfl
@[simp] theorem State.setComp_resetAsserted : (s.setComp v).resetAsserted = s.resetAsserted := rfl
@[simp] theorem State.setComp_memStart : (s.setComp v).memStart = s.memStart := rfl
@[simp] theorem State.setComp_link : (s.setComp v).link = s.link := rfl
@[simp] theorem State.setComp_slot : (s.setComp v).slot = s.slot := rfl
@[simp] theorem State.setComp_stopOwed : (s.setComp v).stopOwed = s.stopOwed := rfl
@[simp] theorem State.setComp_cams : (s.setComp v).cams = s.cams := rfl
@[simp] theorem State.setComp_timer : (s.setComp v).timer = s.timer := rfl
@[simp] theorem State.setComp_staged : (s.setComp v).staged = s.staged := rfl
@[simp] theorem State.setComp_active : (s.setComp v).active = s.active := rfl
@[simp] theorem State.setComp_top : (s.setComp v).top = s.top := rfl
@[simp] theorem State.setComp_banks : (s.setComp v).banks = s.banks := rfl
@[simp] theorem State.setComp_comp : (s.setComp v).comp = v := rfl
@[simp] theorem State.setComp_zones : (s.setComp v).zones = s.zones := rfl
@[simp] theorem State.setComp_out : (s.setComp v).out = s.out := rfl
@[simp] theorem State.setComp_arb : (s.setComp v).arb = s.arb := rfl
@[simp] theorem State.setComp_mem : (s.setComp v).mem = s.mem := rfl
end setComp

section setZones
variable (s : State) (v : Vector Zone 4)
@[simp] theorem State.setZones_pending : (s.setZones v).pending = s.pending := rfl
@[simp] theorem State.setZones_ties : (s.setZones v).ties = s.ties := rfl
@[simp] theorem State.setZones_resetAsserted : (s.setZones v).resetAsserted = s.resetAsserted := rfl
@[simp] theorem State.setZones_memStart : (s.setZones v).memStart = s.memStart := rfl
@[simp] theorem State.setZones_link : (s.setZones v).link = s.link := rfl
@[simp] theorem State.setZones_slot : (s.setZones v).slot = s.slot := rfl
@[simp] theorem State.setZones_stopOwed : (s.setZones v).stopOwed = s.stopOwed := rfl
@[simp] theorem State.setZones_cams : (s.setZones v).cams = s.cams := rfl
@[simp] theorem State.setZones_timer : (s.setZones v).timer = s.timer := rfl
@[simp] theorem State.setZones_staged : (s.setZones v).staged = s.staged := rfl
@[simp] theorem State.setZones_active : (s.setZones v).active = s.active := rfl
@[simp] theorem State.setZones_top : (s.setZones v).top = s.top := rfl
@[simp] theorem State.setZones_banks : (s.setZones v).banks = s.banks := rfl
@[simp] theorem State.setZones_comp : (s.setZones v).comp = s.comp := rfl
@[simp] theorem State.setZones_zones : (s.setZones v).zones = v := rfl
@[simp] theorem State.setZones_out : (s.setZones v).out = s.out := rfl
@[simp] theorem State.setZones_arb : (s.setZones v).arb = s.arb := rfl
@[simp] theorem State.setZones_mem : (s.setZones v).mem = s.mem := rfl
end setZones

section setOut
variable (s : State) (v : Output)
@[simp] theorem State.setOut_pending : (s.setOut v).pending = s.pending := rfl
@[simp] theorem State.setOut_ties : (s.setOut v).ties = s.ties := rfl
@[simp] theorem State.setOut_resetAsserted : (s.setOut v).resetAsserted = s.resetAsserted := rfl
@[simp] theorem State.setOut_memStart : (s.setOut v).memStart = s.memStart := rfl
@[simp] theorem State.setOut_link : (s.setOut v).link = s.link := rfl
@[simp] theorem State.setOut_slot : (s.setOut v).slot = s.slot := rfl
@[simp] theorem State.setOut_stopOwed : (s.setOut v).stopOwed = s.stopOwed := rfl
@[simp] theorem State.setOut_cams : (s.setOut v).cams = s.cams := rfl
@[simp] theorem State.setOut_timer : (s.setOut v).timer = s.timer := rfl
@[simp] theorem State.setOut_staged : (s.setOut v).staged = s.staged := rfl
@[simp] theorem State.setOut_active : (s.setOut v).active = s.active := rfl
@[simp] theorem State.setOut_top : (s.setOut v).top = s.top := rfl
@[simp] theorem State.setOut_banks : (s.setOut v).banks = s.banks := rfl
@[simp] theorem State.setOut_comp : (s.setOut v).comp = s.comp := rfl
@[simp] theorem State.setOut_zones : (s.setOut v).zones = s.zones := rfl
@[simp] theorem State.setOut_out : (s.setOut v).out = v := rfl
@[simp] theorem State.setOut_arb : (s.setOut v).arb = s.arb := rfl
@[simp] theorem State.setOut_mem : (s.setOut v).mem = s.mem := rfl
end setOut

section setArb
variable (s : State) (v : Arbiter)
@[simp] theorem State.setArb_pending : (s.setArb v).pending = s.pending := rfl
@[simp] theorem State.setArb_ties : (s.setArb v).ties = s.ties := rfl
@[simp] theorem State.setArb_resetAsserted : (s.setArb v).resetAsserted = s.resetAsserted := rfl
@[simp] theorem State.setArb_memStart : (s.setArb v).memStart = s.memStart := rfl
@[simp] theorem State.setArb_link : (s.setArb v).link = s.link := rfl
@[simp] theorem State.setArb_slot : (s.setArb v).slot = s.slot := rfl
@[simp] theorem State.setArb_stopOwed : (s.setArb v).stopOwed = s.stopOwed := rfl
@[simp] theorem State.setArb_cams : (s.setArb v).cams = s.cams := rfl
@[simp] theorem State.setArb_timer : (s.setArb v).timer = s.timer := rfl
@[simp] theorem State.setArb_staged : (s.setArb v).staged = s.staged := rfl
@[simp] theorem State.setArb_active : (s.setArb v).active = s.active := rfl
@[simp] theorem State.setArb_top : (s.setArb v).top = s.top := rfl
@[simp] theorem State.setArb_banks : (s.setArb v).banks = s.banks := rfl
@[simp] theorem State.setArb_comp : (s.setArb v).comp = s.comp := rfl
@[simp] theorem State.setArb_zones : (s.setArb v).zones = s.zones := rfl
@[simp] theorem State.setArb_out : (s.setArb v).out = s.out := rfl
@[simp] theorem State.setArb_arb : (s.setArb v).arb = v := rfl
@[simp] theorem State.setArb_mem : (s.setArb v).mem = s.mem := rfl
end setArb

section setMem
variable (s : State) (v : List Host.Cell)
@[simp] theorem State.setMem_pending : (s.setMem v).pending = s.pending := rfl
@[simp] theorem State.setMem_ties : (s.setMem v).ties = s.ties := rfl
@[simp] theorem State.setMem_resetAsserted : (s.setMem v).resetAsserted = s.resetAsserted := rfl
@[simp] theorem State.setMem_memStart : (s.setMem v).memStart = s.memStart := rfl
@[simp] theorem State.setMem_link : (s.setMem v).link = s.link := rfl
@[simp] theorem State.setMem_slot : (s.setMem v).slot = s.slot := rfl
@[simp] theorem State.setMem_stopOwed : (s.setMem v).stopOwed = s.stopOwed := rfl
@[simp] theorem State.setMem_cams : (s.setMem v).cams = s.cams := rfl
@[simp] theorem State.setMem_timer : (s.setMem v).timer = s.timer := rfl
@[simp] theorem State.setMem_staged : (s.setMem v).staged = s.staged := rfl
@[simp] theorem State.setMem_active : (s.setMem v).active = s.active := rfl
@[simp] theorem State.setMem_top : (s.setMem v).top = s.top := rfl
@[simp] theorem State.setMem_banks : (s.setMem v).banks = s.banks := rfl
@[simp] theorem State.setMem_comp : (s.setMem v).comp = s.comp := rfl
@[simp] theorem State.setMem_zones : (s.setMem v).zones = s.zones := rfl
@[simp] theorem State.setMem_out : (s.setMem v).out = s.out := rfl
@[simp] theorem State.setMem_arb : (s.setMem v).arb = s.arb := rfl
@[simp] theorem State.setMem_mem : (s.setMem v).mem = v := rfl
end setMem

section setCam
variable (s : State) (i : Fin 4) (v : Camera)
@[simp] theorem State.setCam_pending : (s.setCam i v).pending = s.pending := rfl
@[simp] theorem State.setCam_ties : (s.setCam i v).ties = s.ties := rfl
@[simp] theorem State.setCam_resetAsserted : (s.setCam i v).resetAsserted = s.resetAsserted := rfl
@[simp] theorem State.setCam_memStart : (s.setCam i v).memStart = s.memStart := rfl
@[simp] theorem State.setCam_link : (s.setCam i v).link = s.link := rfl
@[simp] theorem State.setCam_slot : (s.setCam i v).slot = s.slot := rfl
@[simp] theorem State.setCam_stopOwed : (s.setCam i v).stopOwed = s.stopOwed := rfl
@[simp] theorem State.setCam_timer : (s.setCam i v).timer = s.timer := rfl
@[simp] theorem State.setCam_staged : (s.setCam i v).staged = s.staged := rfl
@[simp] theorem State.setCam_active : (s.setCam i v).active = s.active := rfl
@[simp] theorem State.setCam_top : (s.setCam i v).top = s.top := rfl
@[simp] theorem State.setCam_banks : (s.setCam i v).banks = s.banks := rfl
@[simp] theorem State.setCam_comp : (s.setCam i v).comp = s.comp := rfl
@[simp] theorem State.setCam_zones : (s.setCam i v).zones = s.zones := rfl
@[simp] theorem State.setCam_out : (s.setCam i v).out = s.out := rfl
@[simp] theorem State.setCam_arb : (s.setCam i v).arb = s.arb := rfl
@[simp] theorem State.setCam_mem : (s.setCam i v).mem = s.mem := rfl
theorem State.setCam_cams : (s.setCam i v).cams = s.cams.set i v := rfl
@[simp] theorem State.setCam_get_same : (s.setCam i v).cams[i] = v := by simp [State.setCam]
@[simp] theorem State.setCam_get_val (h : i.val < 4) : (s.setCam i v).cams[i.val]'h = v := by simp [State.setCam]
theorem State.setCam_get_other (j : Fin 4) (h : j ≠ i) : (s.setCam i v).cams[j] = s.cams[j] := by
  have h' : i.val ≠ j.val := fun e => h (Fin.ext e.symm)
  simp [State.setCam, Vector.getElem_set_ne, h']
theorem State.setCam_get (j : Fin 4) : (s.setCam i v).cams[j] = if j = i then v else s.cams[j] := by
  by_cases h : j = i
  · subst h; rw [if_pos rfl]; exact s.setCam_get_same j v
  · simp only [h, if_false]; exact s.setCam_get_other i v j h
end setCam

end Sys2Proof.Machine
end

