-- ==== Sys2Proof/Laws/Ops.lean ====
section
/-! SUPPORT. What each shared operation can do: one lemma that says its whole effect, and the fields it leaves
alone, tagged for `simp`. -/

namespace Sys2Proof.Machine

/-! ### Link -/

/-- A notice is masked, dropped with the flag set, or queued (R152). -/
theorem State.notice_cases (s : State) (k : NoticeKind) (p : List Byte) :
    s.notice k p = s ∨ s.notice k p = s.setLink { s.link with missed := true } ∨
      (s.link.queue.length < 14 ∧ s.notice k p = s.enqueue ⟨k.code, 0#8, p⟩) := by
  unfold State.notice
  split
  · exact .inl rfl
  · split
    · exact .inr (.inl rfl)
    · exact .inr (.inr ⟨by omega, rfl⟩)

section State.notice
variable (s : State) (k : NoticeKind) (p : List Byte)
@[simp] theorem State.notice_pending : (s.notice k p).pending = s.pending := by unfold State.notice; split <;> [rfl; (split <;> rfl)]
@[simp] theorem State.notice_ties : (s.notice k p).ties = s.ties := by unfold State.notice; split <;> [rfl; (split <;> rfl)]
@[simp] theorem State.notice_resetAsserted : (s.notice k p).resetAsserted = s.resetAsserted := by unfold State.notice; split <;> [rfl; (split <;> rfl)]
@[simp] theorem State.notice_memStart : (s.notice k p).memStart = s.memStart := by unfold State.notice; split <;> [rfl; (split <;> rfl)]
@[simp] theorem State.notice_slot : (s.notice k p).slot = s.slot := by unfold State.notice; split <;> [rfl; (split <;> rfl)]
@[simp] theorem State.notice_stopOwed : (s.notice k p).stopOwed = s.stopOwed := by unfold State.notice; split <;> [rfl; (split <;> rfl)]
@[simp] theorem State.notice_cams : (s.notice k p).cams = s.cams := by unfold State.notice; split <;> [rfl; (split <;> rfl)]
@[simp] theorem State.notice_timer : (s.notice k p).timer = s.timer := by unfold State.notice; split <;> [rfl; (split <;> rfl)]
@[simp] theorem State.notice_staged : (s.notice k p).staged = s.staged := by unfold State.notice; split <;> [rfl; (split <;> rfl)]
@[simp] theorem State.notice_active : (s.notice k p).active = s.active := by unfold State.notice; split <;> [rfl; (split <;> rfl)]
@[simp] theorem State.notice_top : (s.notice k p).top = s.top := by unfold State.notice; split <;> [rfl; (split <;> rfl)]
@[simp] theorem State.notice_banks : (s.notice k p).banks = s.banks := by unfold State.notice; split <;> [rfl; (split <;> rfl)]
@[simp] theorem State.notice_comp : (s.notice k p).comp = s.comp := by unfold State.notice; split <;> [rfl; (split <;> rfl)]
@[simp] theorem State.notice_zones : (s.notice k p).zones = s.zones := by unfold State.notice; split <;> [rfl; (split <;> rfl)]
@[simp] theorem State.notice_out : (s.notice k p).out = s.out := by unfold State.notice; split <;> [rfl; (split <;> rfl)]
@[simp] theorem State.notice_arb : (s.notice k p).arb = s.arb := by unfold State.notice; split <;> [rfl; (split <;> rfl)]
@[simp] theorem State.notice_mem : (s.notice k p).mem = s.mem := by unfold State.notice; split <;> [rfl; (split <;> rfl)]
end State.notice

/-- The window in progress and the mask are not a notice's business. -/
@[simp] theorem State.notice_window (s : State) (k : NoticeKind) (p : List Byte) :
    (s.notice k p).link.window = s.link.window := by unfold State.notice; split <;> [rfl; (split <;> rfl)]
@[simp] theorem State.notice_mask (s : State) (k : NoticeKind) (p : List Byte) :
    (s.notice k p).link.mask = s.link.mask := by unfold State.notice; split <;> [rfl; (split <;> rfl)]
@[simp] theorem State.notice_errors (s : State) (k : NoticeKind) (p : List Byte) :
    (s.notice k p).link.errors = s.link.errors := by unfold State.notice; split <;> [rfl; (split <;> rfl)]

section State.enqueue
variable (s : State) (m : Message)
@[simp] theorem State.enqueue_pending : (s.enqueue m).pending = s.pending := by rfl
@[simp] theorem State.enqueue_ties : (s.enqueue m).ties = s.ties := by rfl
@[simp] theorem State.enqueue_resetAsserted : (s.enqueue m).resetAsserted = s.resetAsserted := by rfl
@[simp] theorem State.enqueue_memStart : (s.enqueue m).memStart = s.memStart := by rfl
@[simp] theorem State.enqueue_slot : (s.enqueue m).slot = s.slot := by rfl
@[simp] theorem State.enqueue_stopOwed : (s.enqueue m).stopOwed = s.stopOwed := by rfl
@[simp] theorem State.enqueue_cams : (s.enqueue m).cams = s.cams := by rfl
@[simp] theorem State.enqueue_timer : (s.enqueue m).timer = s.timer := by rfl
@[simp] theorem State.enqueue_staged : (s.enqueue m).staged = s.staged := by rfl
@[simp] theorem State.enqueue_active : (s.enqueue m).active = s.active := by rfl
@[simp] theorem State.enqueue_top : (s.enqueue m).top = s.top := by rfl
@[simp] theorem State.enqueue_banks : (s.enqueue m).banks = s.banks := by rfl
@[simp] theorem State.enqueue_comp : (s.enqueue m).comp = s.comp := by rfl
@[simp] theorem State.enqueue_zones : (s.enqueue m).zones = s.zones := by rfl
@[simp] theorem State.enqueue_out : (s.enqueue m).out = s.out := by rfl
@[simp] theorem State.enqueue_arb : (s.enqueue m).arb = s.arb := by rfl
@[simp] theorem State.enqueue_mem : (s.enqueue m).mem = s.mem := by rfl
end State.enqueue

section State.linkError
variable (s : State)
@[simp] theorem State.linkError_pending : (s.linkError).pending = s.pending := by rfl
@[simp] theorem State.linkError_ties : (s.linkError).ties = s.ties := by rfl
@[simp] theorem State.linkError_resetAsserted : (s.linkError).resetAsserted = s.resetAsserted := by rfl
@[simp] theorem State.linkError_memStart : (s.linkError).memStart = s.memStart := by rfl
@[simp] theorem State.linkError_slot : (s.linkError).slot = s.slot := by rfl
@[simp] theorem State.linkError_stopOwed : (s.linkError).stopOwed = s.stopOwed := by rfl
@[simp] theorem State.linkError_cams : (s.linkError).cams = s.cams := by rfl
@[simp] theorem State.linkError_timer : (s.linkError).timer = s.timer := by rfl
@[simp] theorem State.linkError_staged : (s.linkError).staged = s.staged := by rfl
@[simp] theorem State.linkError_active : (s.linkError).active = s.active := by rfl
@[simp] theorem State.linkError_top : (s.linkError).top = s.top := by rfl
@[simp] theorem State.linkError_banks : (s.linkError).banks = s.banks := by rfl
@[simp] theorem State.linkError_comp : (s.linkError).comp = s.comp := by rfl
@[simp] theorem State.linkError_zones : (s.linkError).zones = s.zones := by rfl
@[simp] theorem State.linkError_out : (s.linkError).out = s.out := by rfl
@[simp] theorem State.linkError_arb : (s.linkError).arb = s.arb := by rfl
@[simp] theorem State.linkError_mem : (s.linkError).mem = s.mem := by rfl
end State.linkError

section State.replyStatus
variable (s : State) (kind tag : Byte) (st : Status)
@[simp] theorem State.replyStatus_pending : (s.replyStatus kind tag st).pending = s.pending := by rfl
@[simp] theorem State.replyStatus_ties : (s.replyStatus kind tag st).ties = s.ties := by rfl
@[simp] theorem State.replyStatus_resetAsserted : (s.replyStatus kind tag st).resetAsserted = s.resetAsserted := by rfl
@[simp] theorem State.replyStatus_memStart : (s.replyStatus kind tag st).memStart = s.memStart := by rfl
@[simp] theorem State.replyStatus_slot : (s.replyStatus kind tag st).slot = s.slot := by rfl
@[simp] theorem State.replyStatus_stopOwed : (s.replyStatus kind tag st).stopOwed = s.stopOwed := by rfl
@[simp] theorem State.replyStatus_cams : (s.replyStatus kind tag st).cams = s.cams := by rfl
@[simp] theorem State.replyStatus_timer : (s.replyStatus kind tag st).timer = s.timer := by rfl
@[simp] theorem State.replyStatus_staged : (s.replyStatus kind tag st).staged = s.staged := by rfl
@[simp] theorem State.replyStatus_active : (s.replyStatus kind tag st).active = s.active := by rfl
@[simp] theorem State.replyStatus_top : (s.replyStatus kind tag st).top = s.top := by rfl
@[simp] theorem State.replyStatus_banks : (s.replyStatus kind tag st).banks = s.banks := by rfl
@[simp] theorem State.replyStatus_comp : (s.replyStatus kind tag st).comp = s.comp := by rfl
@[simp] theorem State.replyStatus_zones : (s.replyStatus kind tag st).zones = s.zones := by rfl
@[simp] theorem State.replyStatus_out : (s.replyStatus kind tag st).out = s.out := by rfl
@[simp] theorem State.replyStatus_arb : (s.replyStatus kind tag st).arb = s.arb := by rfl
@[simp] theorem State.replyStatus_mem : (s.replyStatus kind tag st).mem = s.mem := by rfl
end State.replyStatus

section State.replyOk
variable (s : State) (kind tag : Byte) (d : List Byte)
@[simp] theorem State.replyOk_pending : (s.replyOk kind tag d).pending = s.pending := by rfl
@[simp] theorem State.replyOk_ties : (s.replyOk kind tag d).ties = s.ties := by rfl
@[simp] theorem State.replyOk_resetAsserted : (s.replyOk kind tag d).resetAsserted = s.resetAsserted := by rfl
@[simp] theorem State.replyOk_memStart : (s.replyOk kind tag d).memStart = s.memStart := by rfl
@[simp] theorem State.replyOk_slot : (s.replyOk kind tag d).slot = s.slot := by rfl
@[simp] theorem State.replyOk_stopOwed : (s.replyOk kind tag d).stopOwed = s.stopOwed := by rfl
@[simp] theorem State.replyOk_cams : (s.replyOk kind tag d).cams = s.cams := by rfl
@[simp] theorem State.replyOk_timer : (s.replyOk kind tag d).timer = s.timer := by rfl
@[simp] theorem State.replyOk_staged : (s.replyOk kind tag d).staged = s.staged := by rfl
@[simp] theorem State.replyOk_active : (s.replyOk kind tag d).active = s.active := by rfl
@[simp] theorem State.replyOk_top : (s.replyOk kind tag d).top = s.top := by rfl
@[simp] theorem State.replyOk_banks : (s.replyOk kind tag d).banks = s.banks := by rfl
@[simp] theorem State.replyOk_comp : (s.replyOk kind tag d).comp = s.comp := by rfl
@[simp] theorem State.replyOk_zones : (s.replyOk kind tag d).zones = s.zones := by rfl
@[simp] theorem State.replyOk_out : (s.replyOk kind tag d).out = s.out := by rfl
@[simp] theorem State.replyOk_arb : (s.replyOk kind tag d).arb = s.arb := by rfl
@[simp] theorem State.replyOk_mem : (s.replyOk kind tag d).mem = s.mem := by rfl
end State.replyOk

@[simp] theorem State.enqueue_link (s : State) (m : Message) :
    (s.enqueue m).link = { s.link with queue := s.link.queue ++ [m] } := rfl
@[simp] theorem State.linkError_link (s : State) :
    s.linkError.link = { s.link with errors := s.link.errors + 1#16 } := rfl

/-- Everything the gate can do with a request (R139, R140, R147, R149). -/
theorem passGate_cases (kind tag : Byte) (body : State → State) (s : State) :
    (s.resetAsserted = true ∧ passGate kind tag body s = s) ∨
    passGate kind tag body s = s.linkError ∨
    (s.occupancy < 16 ∧ (s.starting = true → s.link.queue.length < 13) ∧
      passGate kind tag body s = s.replyStatus kind tag .busy) ∨
    (s.resetAsserted = false ∧ s.starting = false ∧ s.occupancy < 16 ∧ (s.slot = none ∨ kind = 0x06#8) ∧
      passGate kind tag body s = body s) ∨
    (s.starting = true ∧ s.link.queue.length < 13 ∧ passGate kind tag body s = s.replyStatus kind tag .busy) := by
  unfold passGate
  by_cases h1 : s.resetAsserted = true
  · simp [h1]
  · simp only [h1]
    by_cases h2 : s.starting = true
    · by_cases h3 : 13 ≤ s.link.queue.length
      · simp [h2, h3]
      · right; right; right; right; simp [h2, h3]
        omega
    · by_cases h3 : 16 ≤ s.occupancy
      · simp [h2, h3]
      · by_cases h4 : s.slot.isSome = true ∧ kind ≠ 0x06#8
        · simp [h2, h3, h4, Nat.lt_of_not_le]
        · have h5 : s.slot = none ∨ kind = 0x06#8 := by
            rcases hs : s.slot with _ | j
            · exact .inl rfl
            · simp [hs] at h4; exact .inr h4
          simp only [h2, h3, h4, h5]
          simp [Nat.lt_of_not_le h3]

/-! ### Arbiter (R132) -/

/-- A grant changes nothing but the arbiter. -/
theorem arbitrate_eq (s : State) : ∃ a : Arbiter, arbitrate s = s.setArb a := by
  unfold arbitrate grant State.onPort
  repeat' split
  all_goals exact ⟨_, rfl⟩

/-- While the port is busy, before the part has started, and while the reset input is asserted, there is no
grant (R128, R132, R139). -/
theorem arbitrate_of_held (s : State)
    (h : s.arb.port.isSome ∨ s.starting = true ∨ s.resetAsserted = true) : arbitrate s = s := if_pos h

section arbitrate
variable (s : State)
@[simp] theorem arbitrate_pending : (arbitrate s).pending = s.pending := by obtain ⟨a, h⟩ := arbitrate_eq s; rw [h]; rfl
@[simp] theorem arbitrate_ties : (arbitrate s).ties = s.ties := by obtain ⟨a, h⟩ := arbitrate_eq s; rw [h]; rfl
@[simp] theorem arbitrate_resetAsserted : (arbitrate s).resetAsserted = s.resetAsserted := by obtain ⟨a, h⟩ := arbitrate_eq s; rw [h]; rfl
@[simp] theorem arbitrate_memStart : (arbitrate s).memStart = s.memStart := by obtain ⟨a, h⟩ := arbitrate_eq s; rw [h]; rfl
@[simp] theorem arbitrate_link : (arbitrate s).link = s.link := by obtain ⟨a, h⟩ := arbitrate_eq s; rw [h]; rfl
@[simp] theorem arbitrate_slot : (arbitrate s).slot = s.slot := by obtain ⟨a, h⟩ := arbitrate_eq s; rw [h]; rfl
@[simp] theorem arbitrate_stopOwed : (arbitrate s).stopOwed = s.stopOwed := by obtain ⟨a, h⟩ := arbitrate_eq s; rw [h]; rfl
@[simp] theorem arbitrate_cams : (arbitrate s).cams = s.cams := by obtain ⟨a, h⟩ := arbitrate_eq s; rw [h]; rfl
@[simp] theorem arbitrate_timer : (arbitrate s).timer = s.timer := by obtain ⟨a, h⟩ := arbitrate_eq s; rw [h]; rfl
@[simp] theorem arbitrate_staged : (arbitrate s).staged = s.staged := by obtain ⟨a, h⟩ := arbitrate_eq s; rw [h]; rfl
@[simp] theorem arbitrate_active : (arbitrate s).active = s.active := by obtain ⟨a, h⟩ := arbitrate_eq s; rw [h]; rfl
@[simp] theorem arbitrate_top : (arbitrate s).top = s.top := by obtain ⟨a, h⟩ := arbitrate_eq s; rw [h]; rfl
@[simp] theorem arbitrate_banks : (arbitrate s).banks = s.banks := by obtain ⟨a, h⟩ := arbitrate_eq s; rw [h]; rfl
@[simp] theorem arbitrate_comp : (arbitrate s).comp = s.comp := by obtain ⟨a, h⟩ := arbitrate_eq s; rw [h]; rfl
@[simp] theorem arbitrate_zones : (arbitrate s).zones = s.zones := by obtain ⟨a, h⟩ := arbitrate_eq s; rw [h]; rfl
@[simp] theorem arbitrate_out : (arbitrate s).out = s.out := by obtain ⟨a, h⟩ := arbitrate_eq s; rw [h]; rfl
@[simp] theorem arbitrate_mem : (arbitrate s).mem = s.mem := by obtain ⟨a, h⟩ := arbitrate_eq s; rw [h]; rfl
end arbitrate

section resumeFill
variable (s : State)
@[simp] theorem resumeFill_pending : (resumeFill s).pending = s.pending := by unfold resumeFill; split <;> rfl
@[simp] theorem resumeFill_ties : (resumeFill s).ties = s.ties := by unfold resumeFill; split <;> rfl
@[simp] theorem resumeFill_resetAsserted : (resumeFill s).resetAsserted = s.resetAsserted := by unfold resumeFill; split <;> rfl
@[simp] theorem resumeFill_memStart : (resumeFill s).memStart = s.memStart := by unfold resumeFill; split <;> rfl
@[simp] theorem resumeFill_link : (resumeFill s).link = s.link := by unfold resumeFill; split <;> rfl
@[simp] theorem resumeFill_slot : (resumeFill s).slot = s.slot := by unfold resumeFill; split <;> rfl
@[simp] theorem resumeFill_stopOwed : (resumeFill s).stopOwed = s.stopOwed := by unfold resumeFill; split <;> rfl
@[simp] theorem resumeFill_cams : (resumeFill s).cams = s.cams := by unfold resumeFill; split <;> rfl
@[simp] theorem resumeFill_timer : (resumeFill s).timer = s.timer := by unfold resumeFill; split <;> rfl
@[simp] theorem resumeFill_staged : (resumeFill s).staged = s.staged := by unfold resumeFill; split <;> rfl
@[simp] theorem resumeFill_active : (resumeFill s).active = s.active := by unfold resumeFill; split <;> rfl
@[simp] theorem resumeFill_top : (resumeFill s).top = s.top := by unfold resumeFill; split <;> rfl
@[simp] theorem resumeFill_banks : (resumeFill s).banks = s.banks := by unfold resumeFill; split <;> rfl
@[simp] theorem resumeFill_comp : (resumeFill s).comp = s.comp := by unfold resumeFill; split <;> rfl
@[simp] theorem resumeFill_zones : (resumeFill s).zones = s.zones := by unfold resumeFill; split <;> rfl
@[simp] theorem resumeFill_out : (resumeFill s).out = s.out := by unfold resumeFill; split <;> rfl
@[simp] theorem resumeFill_mem : (resumeFill s).mem = s.mem := by unfold resumeFill; split <;> rfl
end resumeFill

/-! ### Selection points and releases (R63, R74, R75) -/

section selectCamera
variable (i : Fin 4) (s : State)
@[simp] theorem selectCamera_pending : (selectCamera i s).pending = s.pending := by rfl
@[simp] theorem selectCamera_ties : (selectCamera i s).ties = s.ties := by rfl
@[simp] theorem selectCamera_resetAsserted : (selectCamera i s).resetAsserted = s.resetAsserted := by rfl
@[simp] theorem selectCamera_memStart : (selectCamera i s).memStart = s.memStart := by rfl
@[simp] theorem selectCamera_link : (selectCamera i s).link = s.link := by rfl
@[simp] theorem selectCamera_slot : (selectCamera i s).slot = s.slot := by rfl
@[simp] theorem selectCamera_stopOwed : (selectCamera i s).stopOwed = s.stopOwed := by rfl
@[simp] theorem selectCamera_staged : (selectCamera i s).staged = s.staged := by rfl
@[simp] theorem selectCamera_active : (selectCamera i s).active = s.active := by rfl
@[simp] theorem selectCamera_top : (selectCamera i s).top = s.top := by rfl
@[simp] theorem selectCamera_banks : (selectCamera i s).banks = s.banks := by rfl
@[simp] theorem selectCamera_zones : (selectCamera i s).zones = s.zones := by rfl
@[simp] theorem selectCamera_out : (selectCamera i s).out = s.out := by rfl
@[simp] theorem selectCamera_arb : (selectCamera i s).arb = s.arb := by rfl
@[simp] theorem selectCamera_mem : (selectCamera i s).mem = s.mem := by rfl
end selectCamera

section cancelPoint
variable (i : Fin 4) (s : State)
@[simp] theorem cancelPoint_pending : (cancelPoint i s).pending = s.pending := by unfold cancelPoint; split <;> rfl
@[simp] theorem cancelPoint_ties : (cancelPoint i s).ties = s.ties := by unfold cancelPoint; split <;> rfl
@[simp] theorem cancelPoint_resetAsserted : (cancelPoint i s).resetAsserted = s.resetAsserted := by unfold cancelPoint; split <;> rfl
@[simp] theorem cancelPoint_memStart : (cancelPoint i s).memStart = s.memStart := by unfold cancelPoint; split <;> rfl
@[simp] theorem cancelPoint_link : (cancelPoint i s).link = s.link := by unfold cancelPoint; split <;> rfl
@[simp] theorem cancelPoint_slot : (cancelPoint i s).slot = s.slot := by unfold cancelPoint; split <;> rfl
@[simp] theorem cancelPoint_stopOwed : (cancelPoint i s).stopOwed = s.stopOwed := by unfold cancelPoint; split <;> rfl
@[simp] theorem cancelPoint_cams : (cancelPoint i s).cams = s.cams := by unfold cancelPoint; split <;> rfl
@[simp] theorem cancelPoint_staged : (cancelPoint i s).staged = s.staged := by unfold cancelPoint; split <;> rfl
@[simp] theorem cancelPoint_active : (cancelPoint i s).active = s.active := by unfold cancelPoint; split <;> rfl
@[simp] theorem cancelPoint_top : (cancelPoint i s).top = s.top := by unfold cancelPoint; split <;> rfl
@[simp] theorem cancelPoint_banks : (cancelPoint i s).banks = s.banks := by unfold cancelPoint; split <;> rfl
@[simp] theorem cancelPoint_zones : (cancelPoint i s).zones = s.zones := by unfold cancelPoint; split <;> rfl
@[simp] theorem cancelPoint_out : (cancelPoint i s).out = s.out := by unfold cancelPoint; split <;> rfl
@[simp] theorem cancelPoint_arb : (cancelPoint i s).arb = s.arb := by unfold cancelPoint; split <;> rfl
@[simp] theorem cancelPoint_mem : (cancelPoint i s).mem = s.mem := by unfold cancelPoint; split <;> rfl
end cancelPoint

section cancelPoints
variable (s : State)
@[simp] theorem cancelPoints_pending : (cancelPoints s).pending = s.pending := by simp [cancelPoints, forCams]
@[simp] theorem cancelPoints_ties : (cancelPoints s).ties = s.ties := by simp [cancelPoints, forCams]
@[simp] theorem cancelPoints_resetAsserted : (cancelPoints s).resetAsserted = s.resetAsserted := by simp [cancelPoints, forCams]
@[simp] theorem cancelPoints_memStart : (cancelPoints s).memStart = s.memStart := by simp [cancelPoints, forCams]
@[simp] theorem cancelPoints_link : (cancelPoints s).link = s.link := by simp [cancelPoints, forCams]
@[simp] theorem cancelPoints_slot : (cancelPoints s).slot = s.slot := by simp [cancelPoints, forCams]
@[simp] theorem cancelPoints_stopOwed : (cancelPoints s).stopOwed = s.stopOwed := by simp [cancelPoints, forCams]
@[simp] theorem cancelPoints_cams : (cancelPoints s).cams = s.cams := by simp [cancelPoints, forCams]
@[simp] theorem cancelPoints_staged : (cancelPoints s).staged = s.staged := by simp [cancelPoints, forCams]
@[simp] theorem cancelPoints_active : (cancelPoints s).active = s.active := by simp [cancelPoints, forCams]
@[simp] theorem cancelPoints_top : (cancelPoints s).top = s.top := by simp [cancelPoints, forCams]
@[simp] theorem cancelPoints_banks : (cancelPoints s).banks = s.banks := by simp [cancelPoints, forCams]
@[simp] theorem cancelPoints_zones : (cancelPoints s).zones = s.zones := by simp [cancelPoints, forCams]
@[simp] theorem cancelPoints_out : (cancelPoints s).out = s.out := by simp [cancelPoints, forCams]
@[simp] theorem cancelPoints_arb : (cancelPoints s).arb = s.arb := by simp [cancelPoints, forCams]
@[simp] theorem cancelPoints_mem : (cancelPoints s).mem = s.mem := by simp [cancelPoints, forCams]
end cancelPoints

section releaseSlot
variable (i : Fin 4) (s : State)
@[simp] theorem releaseSlot_pending : (releaseSlot i s).pending = s.pending := by unfold releaseSlot; split <;> rfl
@[simp] theorem releaseSlot_ties : (releaseSlot i s).ties = s.ties := by unfold releaseSlot; split <;> rfl
@[simp] theorem releaseSlot_resetAsserted : (releaseSlot i s).resetAsserted = s.resetAsserted := by unfold releaseSlot; split <;> rfl
@[simp] theorem releaseSlot_memStart : (releaseSlot i s).memStart = s.memStart := by unfold releaseSlot; split <;> rfl
@[simp] theorem releaseSlot_link : (releaseSlot i s).link = s.link := by unfold releaseSlot; split <;> rfl
@[simp] theorem releaseSlot_slot : (releaseSlot i s).slot = s.slot := by unfold releaseSlot; split <;> rfl
@[simp] theorem releaseSlot_stopOwed : (releaseSlot i s).stopOwed = s.stopOwed := by unfold releaseSlot; split <;> rfl
@[simp] theorem releaseSlot_timer : (releaseSlot i s).timer = s.timer := by unfold releaseSlot; split <;> rfl
@[simp] theorem releaseSlot_staged : (releaseSlot i s).staged = s.staged := by unfold releaseSlot; split <;> rfl
@[simp] theorem releaseSlot_active : (releaseSlot i s).active = s.active := by unfold releaseSlot; split <;> rfl
@[simp] theorem releaseSlot_top : (releaseSlot i s).top = s.top := by unfold releaseSlot; split <;> rfl
@[simp] theorem releaseSlot_banks : (releaseSlot i s).banks = s.banks := by unfold releaseSlot; split <;> rfl
@[simp] theorem releaseSlot_comp : (releaseSlot i s).comp = s.comp := by unfold releaseSlot; split <;> rfl
@[simp] theorem releaseSlot_zones : (releaseSlot i s).zones = s.zones := by unfold releaseSlot; split <;> rfl
@[simp] theorem releaseSlot_out : (releaseSlot i s).out = s.out := by unfold releaseSlot; split <;> rfl
@[simp] theorem releaseSlot_arb : (releaseSlot i s).arb = s.arb := by unfold releaseSlot; split <;> rfl
@[simp] theorem releaseSlot_mem : (releaseSlot i s).mem = s.mem := by unfold releaseSlot; split <;> rfl
end releaseSlot

section releaseSlots
variable (s : State)
@[simp] theorem releaseSlots_pending : (releaseSlots s).pending = s.pending := by simp [releaseSlots, forCams]
@[simp] theorem releaseSlots_ties : (releaseSlots s).ties = s.ties := by simp [releaseSlots, forCams]
@[simp] theorem releaseSlots_resetAsserted : (releaseSlots s).resetAsserted = s.resetAsserted := by simp [releaseSlots, forCams]
@[simp] theorem releaseSlots_memStart : (releaseSlots s).memStart = s.memStart := by simp [releaseSlots, forCams]
@[simp] theorem releaseSlots_link : (releaseSlots s).link = s.link := by simp [releaseSlots, forCams]
@[simp] theorem releaseSlots_slot : (releaseSlots s).slot = s.slot := by simp [releaseSlots, forCams]
@[simp] theorem releaseSlots_stopOwed : (releaseSlots s).stopOwed = s.stopOwed := by simp [releaseSlots, forCams]
@[simp] theorem releaseSlots_timer : (releaseSlots s).timer = s.timer := by simp [releaseSlots, forCams]
@[simp] theorem releaseSlots_staged : (releaseSlots s).staged = s.staged := by simp [releaseSlots, forCams]
@[simp] theorem releaseSlots_active : (releaseSlots s).active = s.active := by simp [releaseSlots, forCams]
@[simp] theorem releaseSlots_top : (releaseSlots s).top = s.top := by simp [releaseSlots, forCams]
@[simp] theorem releaseSlots_banks : (releaseSlots s).banks = s.banks := by simp [releaseSlots, forCams]
@[simp] theorem releaseSlots_comp : (releaseSlots s).comp = s.comp := by simp [releaseSlots, forCams]
@[simp] theorem releaseSlots_zones : (releaseSlots s).zones = s.zones := by simp [releaseSlots, forCams]
@[simp] theorem releaseSlots_out : (releaseSlots s).out = s.out := by simp [releaseSlots, forCams]
@[simp] theorem releaseSlots_arb : (releaseSlots s).arb = s.arb := by simp [releaseSlots, forCams]
@[simp] theorem releaseSlots_mem : (releaseSlots s).mem = s.mem := by simp [releaseSlots, forCams]
end releaseSlots

/-- One point's cancel: its own entry and arm, and no other camera's (R75). -/
theorem cancelPoint_armed (i j : Fin 4) (s : State) :
    (cancelPoint i s).timer.armed[j] = (s.timer.armed[j] && decide (j ≠ i)) := by
  unfold cancelPoint
  by_cases hj : j = i
  · subst hj; split <;> simp_all
  · have hij : i.val ≠ j.val := fun e => hj (Fin.ext e.symm)
    split <;> simp [hj, Vector.getElem_set_ne, hij]

theorem cancelPoint_selection (i j : Fin 4) (s : State) :
    (cancelPoint i s).comp.selection[j] =
      if j = i ∧ s.timer.armed[i] = true then .unavailable .notReached else s.comp.selection[j] := by
  unfold cancelPoint
  by_cases hj : j = i
  · subst hj; split <;> simp_all
  · have hij : i.val ≠ j.val := fun e => hj (Fin.ext e.symm)
    split <;> simp [hj, Vector.getElem_set_ne, hij]

/-- A cancel changes the armed points and the selection table, and no other part of the timer or composer. -/
theorem cancelPoint_eq (i : Fin 4) (s : State) : cancelPoint i s =
    (s.setTimer { s.timer with armed := (cancelPoint i s).timer.armed }).setComp
      { s.comp with selection := (cancelPoint i s).comp.selection } := by
  unfold cancelPoint
  split <;> rfl

theorem cancelPoints_eq (s : State) : cancelPoints s =
    (s.setTimer { s.timer with armed := (cancelPoints s).timer.armed }).setComp
      { s.comp with selection := (cancelPoints s).comp.selection } := by
  have go : ∀ (i : Fin 4) (t : State),
      (∃ a c, t = (s.setTimer { s.timer with armed := a }).setComp { s.comp with selection := c }) →
      ∃ a c, cancelPoint i t = (s.setTimer { s.timer with armed := a }).setComp { s.comp with selection := c } := by
    rintro i t ⟨a, c, rfl⟩
    exact ⟨_, _, cancelPoint_eq i _⟩
  obtain ⟨a, c, h⟩ := go 3 _ (go 2 _ (go 1 _ (go 0 s ⟨s.timer.armed, s.comp.selection, rfl⟩)))
  have h' : cancelPoints s = (s.setTimer { s.timer with armed := a }).setComp { s.comp with selection := c } := h
  rw [h']
  rfl

/-- After a composition's end no point is armed (R75). -/
theorem cancelPoints_armed (s : State) (i : Fin 4) : (cancelPoints s).timer.armed[i] = false := by
  unfold cancelPoints forCams
  simp only [cancelPoint_armed]
  fin_cases i <;> simp

/-- Every point still armed is recorded NOT_REACHED, and every other entry stays (R75). -/
theorem cancelPoints_selection (s : State) (i : Fin 4) : (cancelPoints s).comp.selection[i] =
    if s.timer.armed[i] then .unavailable .notReached else s.comp.selection[i] := by
  unfold cancelPoints forCams
  simp only [cancelPoint_selection, cancelPoint_armed]
  fin_cases i <;> simp

theorem releaseSlot_get (i j : Fin 4) (s : State) : (releaseSlot i s).cams[j] =
    if j = i then (match s.comp.selection[i] with
      | .available _ => s.cams[i].release
      | _ => s.cams[i]) else s.cams[j] := by
  unfold releaseSlot
  cases hsel : s.comp.selection[i] <;> simp only [State.setCam_get] <;> split <;> simp_all

/-- The cameras whose entry is available release, and every other camera stays (R63). -/
theorem releaseSlots_get (s : State) (i : Fin 4) : (releaseSlots s).cams[i] =
    match s.comp.selection[i] with
    | .available _ => s.cams[i].release
    | _ => s.cams[i] := by
  unfold releaseSlots forCams
  simp only [releaseSlot_get, releaseSlot_comp]
  fin_cases i <;> simp

/-! ### Frame rings (R54, R60) -/

/-- Under the ring law the FILLING slot is the one found. -/
theorem Camera.fillingSlot_some (c : Camera) (k : Fin 4)
    (h : ∀ i j : Fin 4, c.slots[i].isFilling = true → c.slots[j].isFilling = true → i = j)
    (hk : c.slots[k].isFilling = true) : c.fillingSlot = some k := by
  have e : ∀ j : Fin 4, c.slots[j].isFilling = decide (j = k) := by
    intro j
    by_cases hj : j = k
    · subst hj
      rw [hk, decide_eq_true rfl]
    · rw [decide_eq_false hj, ← Bool.not_eq_true]
      exact fun h' => hj (h j k h' hk)
  simp only [Camera.fillingSlot, cams4, List.find?_cons, e]
  fin_cases k <;> rfl

theorem Camera.fillingSlot_none (c : Camera) (h : ∀ j : Fin 4, c.slots[j].isFilling = false) :
    c.fillingSlot = none := by
  have h0 := h 0
  have h1 := h 1
  have h2 := h 2
  have h3 := h 3
  unfold Camera.fillingSlot cams4
  simp_all

theorem State.setCam_self (s : State) (i : Fin 4) : s.setCam i s.cams[i] = s := by
  simp [State.setCam, State.setCams]

/-! ### Frame complete and abandon (R97, R102) -/

section settleCoverage
variable (s : State)
@[simp] theorem settleCoverage_pending : (settleCoverage s).pending = s.pending := by simp only [settleCoverage]; split <;> simp
@[simp] theorem settleCoverage_ties : (settleCoverage s).ties = s.ties := by simp only [settleCoverage]; split <;> simp
@[simp] theorem settleCoverage_resetAsserted : (settleCoverage s).resetAsserted = s.resetAsserted := by simp only [settleCoverage]; split <;> simp
@[simp] theorem settleCoverage_memStart : (settleCoverage s).memStart = s.memStart := by simp only [settleCoverage]; split <;> simp
@[simp] theorem settleCoverage_slot : (settleCoverage s).slot = s.slot := by simp only [settleCoverage]; split <;> simp
@[simp] theorem settleCoverage_stopOwed : (settleCoverage s).stopOwed = s.stopOwed := by simp only [settleCoverage]; split <;> simp
@[simp] theorem settleCoverage_cams : (settleCoverage s).cams = s.cams := by simp only [settleCoverage]; split <;> simp
@[simp] theorem settleCoverage_timer : (settleCoverage s).timer = s.timer := by simp only [settleCoverage]; split <;> simp
@[simp] theorem settleCoverage_staged : (settleCoverage s).staged = s.staged := by simp only [settleCoverage]; split <;> simp
@[simp] theorem settleCoverage_active : (settleCoverage s).active = s.active := by simp only [settleCoverage]; split <;> simp
@[simp] theorem settleCoverage_top : (settleCoverage s).top = s.top := by simp only [settleCoverage]; split <;> simp
@[simp] theorem settleCoverage_banks : (settleCoverage s).banks = s.banks := by simp only [settleCoverage]; split <;> simp
@[simp] theorem settleCoverage_zones : (settleCoverage s).zones = s.zones := by simp only [settleCoverage]; split <;> simp
@[simp] theorem settleCoverage_out : (settleCoverage s).out = s.out := by simp only [settleCoverage]; split <;> simp
@[simp] theorem settleCoverage_arb : (settleCoverage s).arb = s.arb := by simp only [settleCoverage]; split <;> simp
@[simp] theorem settleCoverage_mem : (settleCoverage s).mem = s.mem := by simp only [settleCoverage]; split <;> simp
end settleCoverage

section settleShot
variable (s : State)
@[simp] theorem settleShot_pending : (settleShot s).pending = s.pending := by unfold settleShot; split <;> simp
@[simp] theorem settleShot_ties : (settleShot s).ties = s.ties := by unfold settleShot; split <;> simp
@[simp] theorem settleShot_resetAsserted : (settleShot s).resetAsserted = s.resetAsserted := by unfold settleShot; split <;> simp
@[simp] theorem settleShot_memStart : (settleShot s).memStart = s.memStart := by unfold settleShot; split <;> simp
@[simp] theorem settleShot_slot : (settleShot s).slot = s.slot := by unfold settleShot; split <;> simp
@[simp] theorem settleShot_stopOwed : (settleShot s).stopOwed = s.stopOwed := by unfold settleShot; split <;> simp
@[simp] theorem settleShot_cams : (settleShot s).cams = s.cams := by unfold settleShot; split <;> simp
@[simp] theorem settleShot_timer : (settleShot s).timer = s.timer := by unfold settleShot; split <;> simp
@[simp] theorem settleShot_staged : (settleShot s).staged = s.staged := by unfold settleShot; split <;> simp
@[simp] theorem settleShot_active : (settleShot s).active = s.active := by unfold settleShot; split <;> simp
@[simp] theorem settleShot_banks : (settleShot s).banks = s.banks := by unfold settleShot; split <;> simp
@[simp] theorem settleShot_comp : (settleShot s).comp = s.comp := by unfold settleShot; split <;> simp
@[simp] theorem settleShot_zones : (settleShot s).zones = s.zones := by unfold settleShot; split <;> simp
@[simp] theorem settleShot_out : (settleShot s).out = s.out := by unfold settleShot; split <;> simp
@[simp] theorem settleShot_arb : (settleShot s).arb = s.arb := by unfold settleShot; split <;> simp
@[simp] theorem settleShot_mem : (settleShot s).mem = s.mem := by unfold settleShot; split <;> simp
end settleShot

section publishSlot
variable (s : State)
@[simp] theorem publishSlot_pending : (publishSlot s).pending = s.pending := by unfold publishSlot; split <;> rfl
@[simp] theorem publishSlot_ties : (publishSlot s).ties = s.ties := by unfold publishSlot; split <;> rfl
@[simp] theorem publishSlot_resetAsserted : (publishSlot s).resetAsserted = s.resetAsserted := by unfold publishSlot; split <;> rfl
@[simp] theorem publishSlot_memStart : (publishSlot s).memStart = s.memStart := by unfold publishSlot; split <;> rfl
@[simp] theorem publishSlot_link : (publishSlot s).link = s.link := by unfold publishSlot; split <;> rfl
@[simp] theorem publishSlot_slot : (publishSlot s).slot = s.slot := by unfold publishSlot; split <;> rfl
@[simp] theorem publishSlot_stopOwed : (publishSlot s).stopOwed = s.stopOwed := by unfold publishSlot; split <;> rfl
@[simp] theorem publishSlot_cams : (publishSlot s).cams = s.cams := by unfold publishSlot; split <;> rfl
@[simp] theorem publishSlot_timer : (publishSlot s).timer = s.timer := by unfold publishSlot; split <;> rfl
@[simp] theorem publishSlot_staged : (publishSlot s).staged = s.staged := by unfold publishSlot; split <;> rfl
@[simp] theorem publishSlot_active : (publishSlot s).active = s.active := by unfold publishSlot; split <;> rfl
@[simp] theorem publishSlot_top : (publishSlot s).top = s.top := by unfold publishSlot; split <;> rfl
@[simp] theorem publishSlot_banks : (publishSlot s).banks = s.banks := by unfold publishSlot; split <;> rfl
@[simp] theorem publishSlot_comp : (publishSlot s).comp = s.comp := by unfold publishSlot; split <;> rfl
@[simp] theorem publishSlot_zones : (publishSlot s).zones = s.zones := by unfold publishSlot; split <;> rfl
@[simp] theorem publishSlot_arb : (publishSlot s).arb = s.arb := by unfold publishSlot; split <;> rfl
@[simp] theorem publishSlot_mem : (publishSlot s).mem = s.mem := by unfold publishSlot; split <;> rfl
end publishSlot

section freeSlot
variable (s : State)
@[simp] theorem freeSlot_pending : (freeSlot s).pending = s.pending := by unfold freeSlot; split <;> rfl
@[simp] theorem freeSlot_ties : (freeSlot s).ties = s.ties := by unfold freeSlot; split <;> rfl
@[simp] theorem freeSlot_resetAsserted : (freeSlot s).resetAsserted = s.resetAsserted := by unfold freeSlot; split <;> rfl
@[simp] theorem freeSlot_memStart : (freeSlot s).memStart = s.memStart := by unfold freeSlot; split <;> rfl
@[simp] theorem freeSlot_link : (freeSlot s).link = s.link := by unfold freeSlot; split <;> rfl
@[simp] theorem freeSlot_slot : (freeSlot s).slot = s.slot := by unfold freeSlot; split <;> rfl
@[simp] theorem freeSlot_stopOwed : (freeSlot s).stopOwed = s.stopOwed := by unfold freeSlot; split <;> rfl
@[simp] theorem freeSlot_cams : (freeSlot s).cams = s.cams := by unfold freeSlot; split <;> rfl
@[simp] theorem freeSlot_timer : (freeSlot s).timer = s.timer := by unfold freeSlot; split <;> rfl
@[simp] theorem freeSlot_staged : (freeSlot s).staged = s.staged := by unfold freeSlot; split <;> rfl
@[simp] theorem freeSlot_active : (freeSlot s).active = s.active := by unfold freeSlot; split <;> rfl
@[simp] theorem freeSlot_top : (freeSlot s).top = s.top := by unfold freeSlot; split <;> rfl
@[simp] theorem freeSlot_banks : (freeSlot s).banks = s.banks := by unfold freeSlot; split <;> rfl
@[simp] theorem freeSlot_comp : (freeSlot s).comp = s.comp := by unfold freeSlot; split <;> rfl
@[simp] theorem freeSlot_zones : (freeSlot s).zones = s.zones := by unfold freeSlot; split <;> rfl
@[simp] theorem freeSlot_arb : (freeSlot s).arb = s.arb := by unfold freeSlot; split <;> rfl
@[simp] theorem freeSlot_mem : (freeSlot s).mem = s.mem := by unfold freeSlot; split <;> rfl
end freeSlot

section gainUpdate
variable (s : State)
@[simp] theorem gainUpdate_pending : (gainUpdate s).pending = s.pending := by unfold gainUpdate; split <;> rfl
@[simp] theorem gainUpdate_ties : (gainUpdate s).ties = s.ties := by unfold gainUpdate; split <;> rfl
@[simp] theorem gainUpdate_resetAsserted : (gainUpdate s).resetAsserted = s.resetAsserted := by unfold gainUpdate; split <;> rfl
@[simp] theorem gainUpdate_memStart : (gainUpdate s).memStart = s.memStart := by unfold gainUpdate; split <;> rfl
@[simp] theorem gainUpdate_link : (gainUpdate s).link = s.link := by unfold gainUpdate; split <;> rfl
@[simp] theorem gainUpdate_slot : (gainUpdate s).slot = s.slot := by unfold gainUpdate; split <;> rfl
@[simp] theorem gainUpdate_stopOwed : (gainUpdate s).stopOwed = s.stopOwed := by unfold gainUpdate; split <;> rfl
@[simp] theorem gainUpdate_cams : (gainUpdate s).cams = s.cams := by unfold gainUpdate; split <;> rfl
@[simp] theorem gainUpdate_timer : (gainUpdate s).timer = s.timer := by unfold gainUpdate; split <;> rfl
@[simp] theorem gainUpdate_active : (gainUpdate s).active = s.active := by unfold gainUpdate; split <;> rfl
@[simp] theorem gainUpdate_top : (gainUpdate s).top = s.top := by unfold gainUpdate; split <;> rfl
@[simp] theorem gainUpdate_banks : (gainUpdate s).banks = s.banks := by unfold gainUpdate; split <;> rfl
@[simp] theorem gainUpdate_comp : (gainUpdate s).comp = s.comp := by unfold gainUpdate; split <;> rfl
@[simp] theorem gainUpdate_zones : (gainUpdate s).zones = s.zones := by unfold gainUpdate; split <;> rfl
@[simp] theorem gainUpdate_out : (gainUpdate s).out = s.out := by unfold gainUpdate; split <;> rfl
@[simp] theorem gainUpdate_arb : (gainUpdate s).arb = s.arb := by unfold gainUpdate; split <;> rfl
@[simp] theorem gainUpdate_mem : (gainUpdate s).mem = s.mem := by unfold gainUpdate; split <;> rfl
end gainUpdate

section payStop
variable (s : State)
@[simp] theorem payStop_pending : (payStop s).pending = s.pending := by unfold payStop; split <;> rfl
@[simp] theorem payStop_ties : (payStop s).ties = s.ties := by unfold payStop; split <;> rfl
@[simp] theorem payStop_resetAsserted : (payStop s).resetAsserted = s.resetAsserted := by unfold payStop; split <;> rfl
@[simp] theorem payStop_memStart : (payStop s).memStart = s.memStart := by unfold payStop; split <;> rfl
@[simp] theorem payStop_slot : (payStop s).slot = s.slot := by unfold payStop; split <;> rfl
@[simp] theorem payStop_cams : (payStop s).cams = s.cams := by unfold payStop; split <;> rfl
@[simp] theorem payStop_timer : (payStop s).timer = s.timer := by unfold payStop; split <;> rfl
@[simp] theorem payStop_staged : (payStop s).staged = s.staged := by unfold payStop; split <;> rfl
@[simp] theorem payStop_active : (payStop s).active = s.active := by unfold payStop; split <;> rfl
@[simp] theorem payStop_top : (payStop s).top = s.top := by unfold payStop; split <;> rfl
@[simp] theorem payStop_banks : (payStop s).banks = s.banks := by unfold payStop; split <;> rfl
@[simp] theorem payStop_comp : (payStop s).comp = s.comp := by unfold payStop; split <;> rfl
@[simp] theorem payStop_zones : (payStop s).zones = s.zones := by unfold payStop; split <;> rfl
@[simp] theorem payStop_out : (payStop s).out = s.out := by unfold payStop; split <;> rfl
@[simp] theorem payStop_arb : (payStop s).arb = s.arb := by unfold payStop; split <;> rfl
@[simp] theorem payStop_mem : (payStop s).mem = s.mem := by unfold payStop; split <;> rfl
end payStop

section frameComplete
variable (s : State)
@[simp] theorem frameComplete_pending : (frameComplete s).pending = s.pending := by simp [frameComplete]
@[simp] theorem frameComplete_ties : (frameComplete s).ties = s.ties := by simp [frameComplete]
@[simp] theorem frameComplete_resetAsserted : (frameComplete s).resetAsserted = s.resetAsserted := by simp [frameComplete]
@[simp] theorem frameComplete_memStart : (frameComplete s).memStart = s.memStart := by simp [frameComplete]
@[simp] theorem frameComplete_slot : (frameComplete s).slot = s.slot := by simp [frameComplete]
@[simp] theorem frameComplete_stopOwed : (frameComplete s).stopOwed = s.stopOwed := by simp [frameComplete]
@[simp] theorem frameComplete_active : (frameComplete s).active = s.active := by simp [frameComplete]
@[simp] theorem frameComplete_banks : (frameComplete s).banks = s.banks := by simp [frameComplete]
@[simp] theorem frameComplete_zones : (frameComplete s).zones = s.zones := by simp [frameComplete]
@[simp] theorem frameComplete_arb : (frameComplete s).arb = s.arb := by simp [frameComplete]
@[simp] theorem frameComplete_mem : (frameComplete s).mem = s.mem := by simp [frameComplete]
end frameComplete

section abandonEnd
variable (s : State)
@[simp] theorem abandonEnd_pending : (abandonEnd s).pending = s.pending := by simp [abandonEnd]
@[simp] theorem abandonEnd_ties : (abandonEnd s).ties = s.ties := by simp [abandonEnd]
@[simp] theorem abandonEnd_resetAsserted : (abandonEnd s).resetAsserted = s.resetAsserted := by simp [abandonEnd]
@[simp] theorem abandonEnd_memStart : (abandonEnd s).memStart = s.memStart := by simp [abandonEnd]
@[simp] theorem abandonEnd_slot : (abandonEnd s).slot = s.slot := by simp [abandonEnd]
@[simp] theorem abandonEnd_timer : (abandonEnd s).timer = s.timer := by simp [abandonEnd]
@[simp] theorem abandonEnd_staged : (abandonEnd s).staged = s.staged := by simp [abandonEnd]
@[simp] theorem abandonEnd_active : (abandonEnd s).active = s.active := by simp [abandonEnd]
@[simp] theorem abandonEnd_top : (abandonEnd s).top = s.top := by simp [abandonEnd]
@[simp] theorem abandonEnd_banks : (abandonEnd s).banks = s.banks := by simp [abandonEnd]
@[simp] theorem abandonEnd_arb : (abandonEnd s).arb = s.arb := by simp [abandonEnd]
@[simp] theorem abandonEnd_mem : (abandonEnd s).mem = s.mem := by simp [abandonEnd]
end abandonEnd

section abandonBegin
variable (s : State)
@[simp] theorem abandonBegin_pending : (abandonBegin s).pending = s.pending := by simp [abandonBegin]
@[simp] theorem abandonBegin_ties : (abandonBegin s).ties = s.ties := by simp [abandonBegin]
@[simp] theorem abandonBegin_resetAsserted : (abandonBegin s).resetAsserted = s.resetAsserted := by simp [abandonBegin]
@[simp] theorem abandonBegin_memStart : (abandonBegin s).memStart = s.memStart := by simp [abandonBegin]
@[simp] theorem abandonBegin_link : (abandonBegin s).link = s.link := by simp [abandonBegin]
@[simp] theorem abandonBegin_slot : (abandonBegin s).slot = s.slot := by simp [abandonBegin]
@[simp] theorem abandonBegin_stopOwed : (abandonBegin s).stopOwed = s.stopOwed := by simp [abandonBegin]
@[simp] theorem abandonBegin_cams : (abandonBegin s).cams = s.cams := by simp [abandonBegin]
@[simp] theorem abandonBegin_staged : (abandonBegin s).staged = s.staged := by simp [abandonBegin]
@[simp] theorem abandonBegin_active : (abandonBegin s).active = s.active := by simp [abandonBegin]
@[simp] theorem abandonBegin_top : (abandonBegin s).top = s.top := by simp [abandonBegin]
@[simp] theorem abandonBegin_banks : (abandonBegin s).banks = s.banks := by simp [abandonBegin]
@[simp] theorem abandonBegin_zones : (abandonBegin s).zones = s.zones := by simp [abandonBegin]
@[simp] theorem abandonBegin_out : (abandonBegin s).out = s.out := by simp [abandonBegin]
@[simp] theorem abandonBegin_mem : (abandonBegin s).mem = s.mem := by simp [abandonBegin]
end abandonBegin

section settleEnd
variable (s : State)
@[simp] theorem settleEnd_pending : (settleEnd s).pending = s.pending := by unfold settleEnd; split <;> [(split <;> simp); rfl]
@[simp] theorem settleEnd_ties : (settleEnd s).ties = s.ties := by unfold settleEnd; split <;> [(split <;> simp); rfl]
@[simp] theorem settleEnd_resetAsserted : (settleEnd s).resetAsserted = s.resetAsserted := by unfold settleEnd; split <;> [(split <;> simp); rfl]
@[simp] theorem settleEnd_memStart : (settleEnd s).memStart = s.memStart := by unfold settleEnd; split <;> [(split <;> simp); rfl]
@[simp] theorem settleEnd_slot : (settleEnd s).slot = s.slot := by unfold settleEnd; split <;> [(split <;> simp); rfl]
@[simp] theorem settleEnd_active : (settleEnd s).active = s.active := by unfold settleEnd; split <;> [(split <;> simp); rfl]
@[simp] theorem settleEnd_banks : (settleEnd s).banks = s.banks := by unfold settleEnd; split <;> [(split <;> simp); rfl]
@[simp] theorem settleEnd_arb : (settleEnd s).arb = s.arb := by unfold settleEnd; split <;> [(split <;> simp); rfl]
@[simp] theorem settleEnd_mem : (settleEnd s).mem = s.mem := by unfold settleEnd; split <;> [(split <;> simp); rfl]
end settleEnd

/-! ### Bursts (R129) -/

section landBurst
variable (b : Burst) (s : State)
@[simp] theorem landBurst_pending : (landBurst b s).pending = s.pending := by simp only [landBurst]; split <;> rfl
@[simp] theorem landBurst_ties : (landBurst b s).ties = s.ties := by simp only [landBurst]; split <;> rfl
@[simp] theorem landBurst_resetAsserted : (landBurst b s).resetAsserted = s.resetAsserted := by simp only [landBurst]; split <;> rfl
@[simp] theorem landBurst_memStart : (landBurst b s).memStart = s.memStart := by simp only [landBurst]; split <;> rfl
@[simp] theorem landBurst_link : (landBurst b s).link = s.link := by simp only [landBurst]; split <;> rfl
@[simp] theorem landBurst_slot : (landBurst b s).slot = s.slot := by simp only [landBurst]; split <;> rfl
@[simp] theorem landBurst_stopOwed : (landBurst b s).stopOwed = s.stopOwed := by simp only [landBurst]; split <;> rfl
@[simp] theorem landBurst_cams : (landBurst b s).cams = s.cams := by simp only [landBurst]; split <;> rfl
@[simp] theorem landBurst_timer : (landBurst b s).timer = s.timer := by simp only [landBurst]; split <;> rfl
@[simp] theorem landBurst_staged : (landBurst b s).staged = s.staged := by simp only [landBurst]; split <;> rfl
@[simp] theorem landBurst_active : (landBurst b s).active = s.active := by simp only [landBurst]; split <;> rfl
@[simp] theorem landBurst_top : (landBurst b s).top = s.top := by simp only [landBurst]; split <;> rfl
@[simp] theorem landBurst_banks : (landBurst b s).banks = s.banks := by simp only [landBurst]; split <;> rfl
@[simp] theorem landBurst_comp : (landBurst b s).comp = s.comp := by simp only [landBurst]; split <;> rfl
@[simp] theorem landBurst_zones : (landBurst b s).zones = s.zones := by simp only [landBurst]; split <;> rfl
@[simp] theorem landBurst_out : (landBurst b s).out = s.out := by simp only [landBurst]; split <;> rfl
end landBurst

section jobBurstDone
variable (n : Nat) (r : List Byte) (s : State)
@[simp] theorem jobBurstDone_pending : (jobBurstDone n r s).pending = s.pending := by unfold jobBurstDone; split <;> [rfl; (simp only []; split <;> rfl)]
@[simp] theorem jobBurstDone_ties : (jobBurstDone n r s).ties = s.ties := by unfold jobBurstDone; split <;> [rfl; (simp only []; split <;> rfl)]
@[simp] theorem jobBurstDone_resetAsserted : (jobBurstDone n r s).resetAsserted = s.resetAsserted := by unfold jobBurstDone; split <;> [rfl; (simp only []; split <;> rfl)]
@[simp] theorem jobBurstDone_memStart : (jobBurstDone n r s).memStart = s.memStart := by unfold jobBurstDone; split <;> [rfl; (simp only []; split <;> rfl)]
@[simp] theorem jobBurstDone_stopOwed : (jobBurstDone n r s).stopOwed = s.stopOwed := by unfold jobBurstDone; split <;> [rfl; (simp only []; split <;> rfl)]
@[simp] theorem jobBurstDone_cams : (jobBurstDone n r s).cams = s.cams := by unfold jobBurstDone; split <;> [rfl; (simp only []; split <;> rfl)]
@[simp] theorem jobBurstDone_timer : (jobBurstDone n r s).timer = s.timer := by unfold jobBurstDone; split <;> [rfl; (simp only []; split <;> rfl)]
@[simp] theorem jobBurstDone_staged : (jobBurstDone n r s).staged = s.staged := by unfold jobBurstDone; split <;> [rfl; (simp only []; split <;> rfl)]
@[simp] theorem jobBurstDone_active : (jobBurstDone n r s).active = s.active := by unfold jobBurstDone; split <;> [rfl; (simp only []; split <;> rfl)]
@[simp] theorem jobBurstDone_top : (jobBurstDone n r s).top = s.top := by unfold jobBurstDone; split <;> [rfl; (simp only []; split <;> rfl)]
@[simp] theorem jobBurstDone_banks : (jobBurstDone n r s).banks = s.banks := by unfold jobBurstDone; split <;> [rfl; (simp only []; split <;> rfl)]
@[simp] theorem jobBurstDone_comp : (jobBurstDone n r s).comp = s.comp := by unfold jobBurstDone; split <;> [rfl; (simp only []; split <;> rfl)]
@[simp] theorem jobBurstDone_zones : (jobBurstDone n r s).zones = s.zones := by unfold jobBurstDone; split <;> [rfl; (simp only []; split <;> rfl)]
@[simp] theorem jobBurstDone_out : (jobBurstDone n r s).out = s.out := by unfold jobBurstDone; split <;> [rfl; (simp only []; split <;> rfl)]
@[simp] theorem jobBurstDone_arb : (jobBurstDone n r s).arb = s.arb := by unfold jobBurstDone; split <;> [rfl; (simp only []; split <;> rfl)]
@[simp] theorem jobBurstDone_mem : (jobBurstDone n r s).mem = s.mem := by unfold jobBurstDone; split <;> [rfl; (simp only []; split <;> rfl)]
end jobBurstDone

section verifyBurstDone
variable (r : List Byte) (s : State)
@[simp] theorem verifyBurstDone_pending : (verifyBurstDone r s).pending = s.pending := by unfold verifyBurstDone; split <;> [rfl; (simp only []; split <;> simp [verifyComplete])]
@[simp] theorem verifyBurstDone_ties : (verifyBurstDone r s).ties = s.ties := by unfold verifyBurstDone; split <;> [rfl; (simp only []; split <;> simp [verifyComplete])]
@[simp] theorem verifyBurstDone_resetAsserted : (verifyBurstDone r s).resetAsserted = s.resetAsserted := by unfold verifyBurstDone; split <;> [rfl; (simp only []; split <;> simp [verifyComplete])]
@[simp] theorem verifyBurstDone_memStart : (verifyBurstDone r s).memStart = s.memStart := by unfold verifyBurstDone; split <;> [rfl; (simp only []; split <;> simp [verifyComplete])]
@[simp] theorem verifyBurstDone_slot : (verifyBurstDone r s).slot = s.slot := by unfold verifyBurstDone; split <;> [rfl; (simp only []; split <;> simp [verifyComplete])]
@[simp] theorem verifyBurstDone_stopOwed : (verifyBurstDone r s).stopOwed = s.stopOwed := by unfold verifyBurstDone; split <;> [rfl; (simp only []; split <;> simp [verifyComplete])]
@[simp] theorem verifyBurstDone_cams : (verifyBurstDone r s).cams = s.cams := by unfold verifyBurstDone; split <;> [rfl; (simp only []; split <;> simp [verifyComplete])]
@[simp] theorem verifyBurstDone_timer : (verifyBurstDone r s).timer = s.timer := by unfold verifyBurstDone; split <;> [rfl; (simp only []; split <;> simp [verifyComplete])]
@[simp] theorem verifyBurstDone_staged : (verifyBurstDone r s).staged = s.staged := by unfold verifyBurstDone; split <;> [rfl; (simp only []; split <;> simp [verifyComplete])]
@[simp] theorem verifyBurstDone_active : (verifyBurstDone r s).active = s.active := by unfold verifyBurstDone; split <;> [rfl; (simp only []; split <;> simp [verifyComplete])]
@[simp] theorem verifyBurstDone_top : (verifyBurstDone r s).top = s.top := by unfold verifyBurstDone; split <;> [rfl; (simp only []; split <;> simp [verifyComplete])]
@[simp] theorem verifyBurstDone_comp : (verifyBurstDone r s).comp = s.comp := by unfold verifyBurstDone; split <;> [rfl; (simp only []; split <;> simp [verifyComplete])]
@[simp] theorem verifyBurstDone_zones : (verifyBurstDone r s).zones = s.zones := by unfold verifyBurstDone; split <;> [rfl; (simp only []; split <;> simp [verifyComplete])]
@[simp] theorem verifyBurstDone_out : (verifyBurstDone r s).out = s.out := by unfold verifyBurstDone; split <;> [rfl; (simp only []; split <;> simp [verifyComplete])]
@[simp] theorem verifyBurstDone_arb : (verifyBurstDone r s).arb = s.arb := by unfold verifyBurstDone; split <;> [rfl; (simp only []; split <;> simp [verifyComplete])]
@[simp] theorem verifyBurstDone_mem : (verifyBurstDone r s).mem = s.mem := by unfold verifyBurstDone; split <;> [rfl; (simp only []; split <;> simp [verifyComplete])]
end verifyBurstDone

section storeBurstDone
variable (n : Nat) (s : State)
@[simp] theorem storeBurstDone_pending : (storeBurstDone n s).pending = s.pending := by unfold storeBurstDone; split <;> [rfl; simp]
@[simp] theorem storeBurstDone_ties : (storeBurstDone n s).ties = s.ties := by unfold storeBurstDone; split <;> [rfl; simp]
@[simp] theorem storeBurstDone_resetAsserted : (storeBurstDone n s).resetAsserted = s.resetAsserted := by unfold storeBurstDone; split <;> [rfl; simp]
@[simp] theorem storeBurstDone_memStart : (storeBurstDone n s).memStart = s.memStart := by unfold storeBurstDone; split <;> [rfl; simp]
@[simp] theorem storeBurstDone_slot : (storeBurstDone n s).slot = s.slot := by unfold storeBurstDone; split <;> [rfl; simp]
@[simp] theorem storeBurstDone_active : (storeBurstDone n s).active = s.active := by unfold storeBurstDone; split <;> [rfl; simp]
@[simp] theorem storeBurstDone_banks : (storeBurstDone n s).banks = s.banks := by unfold storeBurstDone; split <;> [rfl; simp]
@[simp] theorem storeBurstDone_arb : (storeBurstDone n s).arb = s.arb := by unfold storeBurstDone; split <;> [rfl; simp]
@[simp] theorem storeBurstDone_mem : (storeBurstDone n s).mem = s.mem := by unfold storeBurstDone; split <;> [rfl; simp]
end storeBurstDone

section sampleBurstDone
variable (r : List Byte) (s : State)
@[simp] theorem sampleBurstDone_pending : (sampleBurstDone r s).pending = s.pending := by unfold sampleBurstDone; split <;> rfl
@[simp] theorem sampleBurstDone_ties : (sampleBurstDone r s).ties = s.ties := by unfold sampleBurstDone; split <;> rfl
@[simp] theorem sampleBurstDone_resetAsserted : (sampleBurstDone r s).resetAsserted = s.resetAsserted := by unfold sampleBurstDone; split <;> rfl
@[simp] theorem sampleBurstDone_memStart : (sampleBurstDone r s).memStart = s.memStart := by unfold sampleBurstDone; split <;> rfl
@[simp] theorem sampleBurstDone_link : (sampleBurstDone r s).link = s.link := by unfold sampleBurstDone; split <;> rfl
@[simp] theorem sampleBurstDone_slot : (sampleBurstDone r s).slot = s.slot := by unfold sampleBurstDone; split <;> rfl
@[simp] theorem sampleBurstDone_stopOwed : (sampleBurstDone r s).stopOwed = s.stopOwed := by unfold sampleBurstDone; split <;> rfl
@[simp] theorem sampleBurstDone_cams : (sampleBurstDone r s).cams = s.cams := by unfold sampleBurstDone; split <;> rfl
@[simp] theorem sampleBurstDone_timer : (sampleBurstDone r s).timer = s.timer := by unfold sampleBurstDone; split <;> rfl
@[simp] theorem sampleBurstDone_staged : (sampleBurstDone r s).staged = s.staged := by unfold sampleBurstDone; split <;> rfl
@[simp] theorem sampleBurstDone_active : (sampleBurstDone r s).active = s.active := by unfold sampleBurstDone; split <;> rfl
@[simp] theorem sampleBurstDone_top : (sampleBurstDone r s).top = s.top := by unfold sampleBurstDone; split <;> rfl
@[simp] theorem sampleBurstDone_banks : (sampleBurstDone r s).banks = s.banks := by unfold sampleBurstDone; split <;> rfl
@[simp] theorem sampleBurstDone_zones : (sampleBurstDone r s).zones = s.zones := by unfold sampleBurstDone; split <;> rfl
@[simp] theorem sampleBurstDone_out : (sampleBurstDone r s).out = s.out := by unfold sampleBurstDone; split <;> rfl
@[simp] theorem sampleBurstDone_arb : (sampleBurstDone r s).arb = s.arb := by unfold sampleBurstDone; split <;> rfl
@[simp] theorem sampleBurstDone_mem : (sampleBurstDone r s).mem = s.mem := by unfold sampleBurstDone; split <;> rfl
end sampleBurstDone

section fetchBurstDone
variable (r : List Byte) (s : State)
@[simp] theorem fetchBurstDone_pending : (fetchBurstDone r s).pending = s.pending := by unfold fetchBurstDone; split <;> rfl
@[simp] theorem fetchBurstDone_ties : (fetchBurstDone r s).ties = s.ties := by unfold fetchBurstDone; split <;> rfl
@[simp] theorem fetchBurstDone_resetAsserted : (fetchBurstDone r s).resetAsserted = s.resetAsserted := by unfold fetchBurstDone; split <;> rfl
@[simp] theorem fetchBurstDone_memStart : (fetchBurstDone r s).memStart = s.memStart := by unfold fetchBurstDone; split <;> rfl
@[simp] theorem fetchBurstDone_link : (fetchBurstDone r s).link = s.link := by unfold fetchBurstDone; split <;> rfl
@[simp] theorem fetchBurstDone_slot : (fetchBurstDone r s).slot = s.slot := by unfold fetchBurstDone; split <;> rfl
@[simp] theorem fetchBurstDone_stopOwed : (fetchBurstDone r s).stopOwed = s.stopOwed := by unfold fetchBurstDone; split <;> rfl
@[simp] theorem fetchBurstDone_cams : (fetchBurstDone r s).cams = s.cams := by unfold fetchBurstDone; split <;> rfl
@[simp] theorem fetchBurstDone_timer : (fetchBurstDone r s).timer = s.timer := by unfold fetchBurstDone; split <;> rfl
@[simp] theorem fetchBurstDone_staged : (fetchBurstDone r s).staged = s.staged := by unfold fetchBurstDone; split <;> rfl
@[simp] theorem fetchBurstDone_active : (fetchBurstDone r s).active = s.active := by unfold fetchBurstDone; split <;> rfl
@[simp] theorem fetchBurstDone_top : (fetchBurstDone r s).top = s.top := by unfold fetchBurstDone; split <;> rfl
@[simp] theorem fetchBurstDone_banks : (fetchBurstDone r s).banks = s.banks := by unfold fetchBurstDone; split <;> rfl
@[simp] theorem fetchBurstDone_zones : (fetchBurstDone r s).zones = s.zones := by unfold fetchBurstDone; split <;> rfl
@[simp] theorem fetchBurstDone_out : (fetchBurstDone r s).out = s.out := by unfold fetchBurstDone; split <;> rfl
@[simp] theorem fetchBurstDone_arb : (fetchBurstDone r s).arb = s.arb := by unfold fetchBurstDone; split <;> rfl
@[simp] theorem fetchBurstDone_mem : (fetchBurstDone r s).mem = s.mem := by unfold fetchBurstDone; split <;> rfl
end fetchBurstDone

section mapBurstDone
variable (n : Nat) (r : List Byte) (s : State)
@[simp] theorem mapBurstDone_pending : (mapBurstDone n r s).pending = s.pending := by rfl
@[simp] theorem mapBurstDone_ties : (mapBurstDone n r s).ties = s.ties := by rfl
@[simp] theorem mapBurstDone_resetAsserted : (mapBurstDone n r s).resetAsserted = s.resetAsserted := by rfl
@[simp] theorem mapBurstDone_memStart : (mapBurstDone n r s).memStart = s.memStart := by rfl
@[simp] theorem mapBurstDone_link : (mapBurstDone n r s).link = s.link := by rfl
@[simp] theorem mapBurstDone_slot : (mapBurstDone n r s).slot = s.slot := by rfl
@[simp] theorem mapBurstDone_stopOwed : (mapBurstDone n r s).stopOwed = s.stopOwed := by rfl
@[simp] theorem mapBurstDone_cams : (mapBurstDone n r s).cams = s.cams := by rfl
@[simp] theorem mapBurstDone_timer : (mapBurstDone n r s).timer = s.timer := by rfl
@[simp] theorem mapBurstDone_staged : (mapBurstDone n r s).staged = s.staged := by rfl
@[simp] theorem mapBurstDone_active : (mapBurstDone n r s).active = s.active := by rfl
@[simp] theorem mapBurstDone_top : (mapBurstDone n r s).top = s.top := by rfl
@[simp] theorem mapBurstDone_banks : (mapBurstDone n r s).banks = s.banks := by rfl
@[simp] theorem mapBurstDone_zones : (mapBurstDone n r s).zones = s.zones := by rfl
@[simp] theorem mapBurstDone_out : (mapBurstDone n r s).out = s.out := by rfl
@[simp] theorem mapBurstDone_arb : (mapBurstDone n r s).arb = s.arb := by rfl
@[simp] theorem mapBurstDone_mem : (mapBurstDone n r s).mem = s.mem := by rfl
end mapBurstDone

section fillBurstDone
variable (s : State)
@[simp] theorem fillBurstDone_pending : (fillBurstDone s).pending = s.pending := by unfold fillBurstDone; split <;> [(split <;> rfl); rfl]
@[simp] theorem fillBurstDone_ties : (fillBurstDone s).ties = s.ties := by unfold fillBurstDone; split <;> [(split <;> rfl); rfl]
@[simp] theorem fillBurstDone_resetAsserted : (fillBurstDone s).resetAsserted = s.resetAsserted := by unfold fillBurstDone; split <;> [(split <;> rfl); rfl]
@[simp] theorem fillBurstDone_slot : (fillBurstDone s).slot = s.slot := by unfold fillBurstDone; split <;> [(split <;> rfl); rfl]
@[simp] theorem fillBurstDone_stopOwed : (fillBurstDone s).stopOwed = s.stopOwed := by unfold fillBurstDone; split <;> [(split <;> rfl); rfl]
@[simp] theorem fillBurstDone_cams : (fillBurstDone s).cams = s.cams := by unfold fillBurstDone; split <;> [(split <;> rfl); rfl]
@[simp] theorem fillBurstDone_timer : (fillBurstDone s).timer = s.timer := by unfold fillBurstDone; split <;> [(split <;> rfl); rfl]
@[simp] theorem fillBurstDone_staged : (fillBurstDone s).staged = s.staged := by unfold fillBurstDone; split <;> [(split <;> rfl); rfl]
@[simp] theorem fillBurstDone_active : (fillBurstDone s).active = s.active := by unfold fillBurstDone; split <;> [(split <;> rfl); rfl]
@[simp] theorem fillBurstDone_top : (fillBurstDone s).top = s.top := by unfold fillBurstDone; split <;> [(split <;> rfl); rfl]
@[simp] theorem fillBurstDone_banks : (fillBurstDone s).banks = s.banks := by unfold fillBurstDone; split <;> [(split <;> rfl); rfl]
@[simp] theorem fillBurstDone_comp : (fillBurstDone s).comp = s.comp := by unfold fillBurstDone; split <;> [(split <;> rfl); rfl]
@[simp] theorem fillBurstDone_zones : (fillBurstDone s).zones = s.zones := by unfold fillBurstDone; split <;> [(split <;> rfl); rfl]
@[simp] theorem fillBurstDone_out : (fillBurstDone s).out = s.out := by unfold fillBurstDone; split <;> [(split <;> rfl); rfl]
@[simp] theorem fillBurstDone_arb : (fillBurstDone s).arb = s.arb := by unfold fillBurstDone; split <;> [(split <;> rfl); rfl]
@[simp] theorem fillBurstDone_mem : (fillBurstDone s).mem = s.mem := by unfold fillBurstDone; split <;> [(split <;> rfl); rfl]
end fillBurstDone

section markDisplay
variable (s : State)
@[simp] theorem markDisplay_pending : (markDisplay s).pending = s.pending := by rfl
@[simp] theorem markDisplay_ties : (markDisplay s).ties = s.ties := by rfl
@[simp] theorem markDisplay_resetAsserted : (markDisplay s).resetAsserted = s.resetAsserted := by rfl
@[simp] theorem markDisplay_memStart : (markDisplay s).memStart = s.memStart := by rfl
@[simp] theorem markDisplay_link : (markDisplay s).link = s.link := by rfl
@[simp] theorem markDisplay_slot : (markDisplay s).slot = s.slot := by rfl
@[simp] theorem markDisplay_stopOwed : (markDisplay s).stopOwed = s.stopOwed := by rfl
@[simp] theorem markDisplay_cams : (markDisplay s).cams = s.cams := by rfl
@[simp] theorem markDisplay_timer : (markDisplay s).timer = s.timer := by rfl
@[simp] theorem markDisplay_staged : (markDisplay s).staged = s.staged := by rfl
@[simp] theorem markDisplay_active : (markDisplay s).active = s.active := by rfl
@[simp] theorem markDisplay_top : (markDisplay s).top = s.top := by rfl
@[simp] theorem markDisplay_banks : (markDisplay s).banks = s.banks := by rfl
@[simp] theorem markDisplay_comp : (markDisplay s).comp = s.comp := by rfl
@[simp] theorem markDisplay_zones : (markDisplay s).zones = s.zones := by rfl
@[simp] theorem markDisplay_mem : (markDisplay s).mem = s.mem := by rfl
end markDisplay

section missedMark
variable (s : State)
@[simp] theorem missedMark_pending : (missedMark s).pending = s.pending := by simp only [missedMark]; split <;> simp
@[simp] theorem missedMark_ties : (missedMark s).ties = s.ties := by simp only [missedMark]; split <;> simp
@[simp] theorem missedMark_resetAsserted : (missedMark s).resetAsserted = s.resetAsserted := by simp only [missedMark]; split <;> simp
@[simp] theorem missedMark_memStart : (missedMark s).memStart = s.memStart := by simp only [missedMark]; split <;> simp
@[simp] theorem missedMark_slot : (missedMark s).slot = s.slot := by simp only [missedMark]; split <;> simp
@[simp] theorem missedMark_stopOwed : (missedMark s).stopOwed = s.stopOwed := by simp only [missedMark]; split <;> simp
@[simp] theorem missedMark_cams : (missedMark s).cams = s.cams := by simp only [missedMark]; split <;> simp
@[simp] theorem missedMark_staged : (missedMark s).staged = s.staged := by simp only [missedMark]; split <;> simp
@[simp] theorem missedMark_active : (missedMark s).active = s.active := by simp only [missedMark]; split <;> simp
@[simp] theorem missedMark_top : (missedMark s).top = s.top := by simp only [missedMark]; split <;> simp
@[simp] theorem missedMark_banks : (missedMark s).banks = s.banks := by simp only [missedMark]; split <;> simp
@[simp] theorem missedMark_zones : (missedMark s).zones = s.zones := by simp only [missedMark]; split <;> simp
@[simp] theorem missedMark_out : (missedMark s).out = s.out := by simp only [missedMark]; split <;> simp
@[simp] theorem missedMark_arb : (missedMark s).arb = s.arb := by simp only [missedMark]; split <;> simp
@[simp] theorem missedMark_mem : (missedMark s).mem = s.mem := by simp only [missedMark]; split <;> simp
end missedMark

section passMark
variable (s : State)
@[simp] theorem passMark_pending : (passMark s).pending = s.pending := by rfl
@[simp] theorem passMark_ties : (passMark s).ties = s.ties := by rfl
@[simp] theorem passMark_resetAsserted : (passMark s).resetAsserted = s.resetAsserted := by rfl
@[simp] theorem passMark_memStart : (passMark s).memStart = s.memStart := by rfl
@[simp] theorem passMark_link : (passMark s).link = s.link := by rfl
@[simp] theorem passMark_slot : (passMark s).slot = s.slot := by rfl
@[simp] theorem passMark_stopOwed : (passMark s).stopOwed = s.stopOwed := by rfl
@[simp] theorem passMark_cams : (passMark s).cams = s.cams := by rfl
@[simp] theorem passMark_staged : (passMark s).staged = s.staged := by rfl
@[simp] theorem passMark_active : (passMark s).active = s.active := by rfl
@[simp] theorem passMark_top : (passMark s).top = s.top := by rfl
@[simp] theorem passMark_banks : (passMark s).banks = s.banks := by rfl
@[simp] theorem passMark_comp : (passMark s).comp = s.comp := by rfl
@[simp] theorem passMark_zones : (passMark s).zones = s.zones := by rfl
@[simp] theorem passMark_out : (passMark s).out = s.out := by rfl
@[simp] theorem passMark_arb : (passMark s).arb = s.arb := by rfl
@[simp] theorem passMark_mem : (passMark s).mem = s.mem := by rfl
end passMark

section compositionOpen
variable (k : Fin 3) (s : State)
@[simp] theorem compositionOpen_pending : (compositionOpen k s).pending = s.pending := by rfl
@[simp] theorem compositionOpen_ties : (compositionOpen k s).ties = s.ties := by rfl
@[simp] theorem compositionOpen_resetAsserted : (compositionOpen k s).resetAsserted = s.resetAsserted := by rfl
@[simp] theorem compositionOpen_memStart : (compositionOpen k s).memStart = s.memStart := by rfl
@[simp] theorem compositionOpen_link : (compositionOpen k s).link = s.link := by rfl
@[simp] theorem compositionOpen_slot : (compositionOpen k s).slot = s.slot := by rfl
@[simp] theorem compositionOpen_stopOwed : (compositionOpen k s).stopOwed = s.stopOwed := by rfl
@[simp] theorem compositionOpen_cams : (compositionOpen k s).cams = s.cams := by rfl
@[simp] theorem compositionOpen_staged : (compositionOpen k s).staged = s.staged := by rfl
@[simp] theorem compositionOpen_banks : (compositionOpen k s).banks = s.banks := by rfl
@[simp] theorem compositionOpen_arb : (compositionOpen k s).arb = s.arb := by rfl
@[simp] theorem compositionOpen_mem : (compositionOpen k s).mem = s.mem := by rfl
end compositionOpen

/-- The composition start selects the cameras of offset 0 and nothing else after its opening (R74). -/
theorem compositionStart_cases (k : Fin 3) (s : State) (P : State → Prop) (h0 : P (compositionOpen k s))
    (h : ∀ (i : Fin 4) (t : State), P t → P (selectCamera i t)) : P (compositionStart k s) := by
  have g : ∀ (i : Fin 4) (t : State), P t → P (if t.timer.timing.offsets[i] = 0 then selectCamera i t else t) := by
    intro i t ht
    split
    · exact h i t ht
    · exact ht
  exact g 3 _ (g 2 _ (g 1 _ (g 0 _ h0)))

/-! ### The composer's pipeline (R94) -/

/-- What a move of the pipeline leaves alone. -/
structure Composer.SameButPipeline (c d : Composer) : Prop where
  selection : d.selection = c.selection
  slot : d.slot = c.slot
  hold : d.hold = c.hold
  markTime : d.markTime = c.markTime
  holdTable : d.holdTable = c.holdTable
  freshStart : d.freshStart = c.freshStart
  coverage : d.coverage = c.coverage
  seq : d.seq = c.seq
  late : d.late = c.late
  history : d.history = c.history

theorem Composer.SameButPipeline.trans {c d e : Composer} (h : c.SameButPipeline d) (g : d.SameButPipeline e) :
    c.SameButPipeline e :=
  ⟨g.1.trans h.1, g.2.trans h.2, g.3.trans h.3, g.4.trans h.4, g.5.trans h.5, g.6.trans h.6, g.7.trans h.7,
    g.8.trans h.8, g.9.trans h.9, g.10.trans h.10⟩

theorem Composer.issue_same (c : Composer) : c.SameButPipeline c.issue := by
  unfold Composer.issue
  split <;> exact ⟨rfl, rfl, rfl, rfl, rfl, rfl, rfl, rfl, rfl, rfl⟩

theorem Composer.toSample_same (c : Composer) (p : Params) : c.SameButPipeline (c.toSample p) := by
  unfold Composer.toSample
  split <;> exact ⟨rfl, rfl, rfl, rfl, rfl, rfl, rfl, rfl, rfl, rfl⟩

theorem Composer.toStore_same (c : Composer) : c.SameButPipeline c.toStore := by
  unfold Composer.toStore
  split <;> exact ⟨rfl, rfl, rfl, rfl, rfl, rfl, rfl, rfl, rfl, rfl⟩

theorem Composer.advanceOnce_same (c : Composer) (p : Params) : c.SameButPipeline (c.advanceOnce p) :=
  (c.toStore_same.trans (c.toStore.toSample_same p)).trans (Composer.issue_same _)

/-- The pipeline's moves change the stages, the decided tile, the tile index, the counts, the kept runs and the
composer state, and nothing else. -/
theorem Composer.advance_same (c : Composer) (p : Params) : c.SameButPipeline (c.advance p) :=
  ((c.advanceOnce_same p).trans (Composer.advanceOnce_same _ p)).trans (Composer.advanceOnce_same _ p)

/-- A property of the composer that neither a move between stages nor an issue breaks holds after the pipeline
has moved on. -/
theorem Composer.advance_keeps (P : Composer → Prop) (p : Params) (hs : ∀ c, P c → P c.toStore)
    (ht : ∀ c, P c → P (c.toSample p)) (hi : ∀ c, P c → P c.issue) (c : Composer) (h : P c) : P (c.advance p) := by
  have g : ∀ c, P c → P (c.advanceOnce p) := fun c h => hi _ (ht _ (hs _ h))
  exact g _ (g _ (g _ h))

end Sys2Proof.Machine
end

