-- ==== Sys2Proof/Laws/Closed.lean ====
section
/-! SUPPORT. A law that no command's own effect breaks is kept by every step: the owner of each request kind, each
event and the tick are its only obligations; the link's part (gate, replies, windows) is settled here once. -/

namespace Sys2Proof.Machine

/-- A law that no change of the link breaks passes the gate when the owner's part keeps it (R140, R147, R149). -/
theorem passGate_keeps (P : State → Prop) (hl : ∀ s l, P s → P (s.setLink l)) {kind tag : Byte} {body : State → State} {s : State}
    (hb : s.starting = false → s.resetAsserted = false → (s.slot = none ∨ kind = 6#8) → P (body s)) (h : P s) :
    P (passGate kind tag body s) := by
  rcases passGate_cases kind tag body s with ⟨_, e⟩ | e | ⟨_, _, e⟩ | ⟨h1, h2, _, h3, e⟩ | ⟨_, _, e⟩ <;> rw [e]
  · exact h
  · exact hl _ _ h
  · exact hl _ _ h
  · exact hb h2 h1 h3
  · exact hl _ _ h

/-- What a law has to keep for every step to keep it: one field for each command that can do more than write the
link. -/
structure Closed (P : State → Prop) : Prop where
  link : ∀ s l, P s → P (s.setLink l)
  pending : ∀ s l, P s → P (s.setPending l)
  asserted : ∀ s b, P s → P (s.setResetAsserted b)
  pin : ∀ s, P s → P (pinReset s)
  soft : ∀ s, P s → P (softReset s)
  dram : ∀ s, P s → P (dramInOperation s)
  camSetup : ∀ tag p s, P s → P (camSetupBody tag p s)
  camOn : ∀ tag p s, P s → P (camOnBody tag p s)
  camOff : ∀ tag p s, P s → P (camOffBody tag p s)
  outSetup : ∀ tag p s, P s → P (outSetupBody tag p s)
  bankOpen : ∀ tag p s, P s → P (bankOpenBody tag p s)
  bankWrite : ∀ tag p s, P s → P (bankWriteBody tag p s)
  bankClose : ∀ tag p s, P s → P (bankCloseBody tag p s)
  bankRead : ∀ tag p s, P s → P (bankReadBody tag p s)
  bodyWrite : ∀ tag p s, P s → P (bodyWriteBody tag p s)
  heightTable : ∀ tag p s, P s → P (heightTableBody tag p s)
  height : ∀ tag p s, P s → P (heightBody tag p s)
  doors : ∀ tag p s, P s → P (doorsBody tag p s)
  exclude : ∀ tag p s, P s → P (excludeBody tag p s)
  gains : ∀ tag p s, P s → P (gainsBody tag p s)
  start : ∀ tag p s, P s → P (startBody tag p s)
  stop : ∀ tag p s, P s → P (stopBody tag p s)
  single : ∀ tag p s, P s → P (singleBody tag p s)
  frameStart : ∀ i s, P s → P (frameStartEvent i s)
  line : ∀ i b s, P s → P (lineEvent i b s)
  frameEnd : ∀ i s, P s → P (frameEndEvent i s)
  loss : ∀ i s, P s → P (lossTimerExpiryEvent i s)
  mark : ∀ s t, P s → settleMark (markDisplay (s.setTimer s.timer.wrap)) = .next t → P t
  sel : ∀ i s, P s → P (selectionEvent i s)
  tile : ∀ s t, P s → tileDecision s = .next t → P t
  sample : ∀ s, P s → P (sampleArithmeticDone s)
  burst : ∀ s, P s → P (burstComplete s)
  lineEnd : ∀ s, P s → P (lineTimeEndEvent s)
  under : ∀ s, P s → P (lineUnderrunEvent s)
  tick : ∀ s, P s → P (tick s)

variable {P : State → Prop}

/-- The reports and the link's own requests write the link alone. -/
theorem Closed.ident (C : Closed P) (tag p s) (h : P s) : P (identBody tag p s) := by
  unfold identBody; split <;> exact C.link _ _ h
theorem Closed.status (C : Closed P) (tag p s) (h : P s) : P (statusBody tag p s) := by
  unfold statusBody; split
  · exact C.link _ _ h
  · exact C.link _ _ (C.link _ _ h)
theorem Closed.snapshot (C : Closed P) (tag p s) (h : P s) : P (snapshotBody tag p s) := by
  unfold snapshotBody; split <;> exact C.link _ _ h
theorem Closed.history (C : Closed P) (tag p s) (h : P s) : P (historyBody tag p s) := by
  unfold historyBody; split <;> exact C.link _ _ h
theorem Closed.noticeMask (C : Closed P) (tag p s) (h : P s) : P (noticeMaskBody tag p s) := by
  unfold noticeMaskBody; split
  · exact C.link _ _ h
  · split
    · exact C.link _ _ h
    · exact C.link _ _ (C.link _ _ h)
theorem Closed.reset (C : Closed P) (tag p s) (h : P s) : P (resetBody tag p s) := by
  unfold resetBody; split
  · exact C.link _ _ h
  · exact C.soft _ h

/-- The owner of a KIND, one test at a time. -/
theorem ite_keeps {c : Prop} [Decidable c] {f g : State → State} {s : State} (h1 : P (f s)) (h2 : P (g s)) :
    P ((if c then f else g) s) := by split <;> assumption

/-- Every owner keeps the law (Tables 10-1, 11-2). -/
theorem Closed.request (C : Closed P) (kind tag p s) (h : P s) : P (requestBody kind tag p s) := by
  unfold requestBody
  refine ite_keeps (C.ident _ _ _ h) ?_
  refine ite_keeps (C.status _ _ _ h) ?_
  refine ite_keeps (C.snapshot _ _ _ h) ?_
  refine ite_keeps (C.history _ _ _ h) ?_
  refine ite_keeps (C.noticeMask _ _ _ h) ?_
  refine ite_keeps (C.reset _ _ _ h) ?_
  refine ite_keeps (C.camSetup _ _ _ h) ?_
  refine ite_keeps (C.camOn _ _ _ h) ?_
  refine ite_keeps (C.camOff _ _ _ h) ?_
  refine ite_keeps (C.outSetup _ _ _ h) ?_
  refine ite_keeps (C.bankOpen _ _ _ h) ?_
  refine ite_keeps (C.bankWrite _ _ _ h) ?_
  refine ite_keeps (C.bankClose _ _ _ h) ?_
  refine ite_keeps (C.bankRead _ _ _ h) ?_
  refine ite_keeps (C.bodyWrite _ _ _ h) ?_
  refine ite_keeps (C.heightTable _ _ _ h) ?_
  refine ite_keeps (C.height _ _ _ h) ?_
  refine ite_keeps (C.doors _ _ _ h) ?_
  refine ite_keeps (C.gains _ _ _ h) ?_
  refine ite_keeps (C.exclude _ _ _ h) ?_
  refine ite_keeps (C.start _ _ _ h) ?_
  refine ite_keeps (C.stop _ _ _ h) ?_
  refine ite_keeps (C.single _ _ _ h) ?_
  exact C.link _ _ h

/-- A request that is taken keeps it. -/
theorem Closed.take (C : Closed P) (kind tag p s) (h : P s) : P (takeRequest kind tag p s) :=
  passGate_keeps P C.link (fun _ _ _ => C.request _ _ _ _ h) h

/-- The end of a window keeps it, whatever its bytes (R147). -/
theorem Closed.windowEnd (C : Closed P) (bs s) (h : P s) : P (selectWindowEnd bs s) := by
  unfold selectWindowEnd
  split
  · exact h
  · unfold settleInbound
    have h' := fun l => C.link s l h
    repeat' split
    all_goals first | exact C.take _ _ _ _ (h' _) | exact C.link _ _ (h' _)

/-- Every command keeps it. -/
theorem Closed.exec (C : Closed P) (c : Instr) (s t : State) (h : P s) (e : exec c s = .next t) : P t := by
  have G : ∀ {kind tag : Byte} {body : State → State}, P (body s) → P (passGate kind tag body s) :=
    fun hb => passGate_keeps P C.link (fun _ _ _ => hb) h
  have U : ∀ {f : State → State}, P (f s) → P (s.unlessAsserted f) := by
    intro f hf; unfold State.unlessAsserted; split <;> assumption
  cases c <;> simp only [Machine.exec] at e
  case pinReset => cases e; exact C.pin _ h
  case dramInOperation => cases e; exact U (C.dram _ h)
  case selectWindowStart =>
    cases e; refine U ?_
    unfold selectWindowStart; split
    · exact h
    · exact C.link _ _ h
  case selectWindowEnd => cases e; exact U (C.windowEnd _ _ h)
  case unknownKind => cases e; exact C.take _ _ _ _ h
  case ident => cases e; exact G (C.ident _ _ _ h)
  case status => cases e; exact G (C.status _ _ _ h)
  case snapshot => cases e; exact G (C.snapshot _ _ _ h)
  case history => cases e; exact G (C.history _ _ _ h)
  case noticeMask => cases e; exact G (C.noticeMask _ _ _ h)
  case reset => cases e; exact G (C.reset _ _ _ h)
  case camSetup => cases e; exact G (C.camSetup _ _ _ h)
  case camOn => cases e; exact G (C.camOn _ _ _ h)
  case camOff => cases e; exact G (C.camOff _ _ _ h)
  case outSetup => cases e; exact G (C.outSetup _ _ _ h)
  case bankOpen => cases e; exact G (C.bankOpen _ _ _ h)
  case bankWrite => cases e; exact G (C.bankWrite _ _ _ h)
  case bankClose => cases e; exact G (C.bankClose _ _ _ h)
  case bankRead => cases e; exact G (C.bankRead _ _ _ h)
  case bodyWrite => cases e; exact G (C.bodyWrite _ _ _ h)
  case heightTable => cases e; exact G (C.heightTable _ _ _ h)
  case height => cases e; exact G (C.height _ _ _ h)
  case doors => cases e; exact G (C.doors _ _ _ h)
  case exclude => cases e; exact G (C.exclude _ _ _ h)
  case gains => cases e; exact G (C.gains _ _ _ h)
  case start => cases e; exact G (C.start _ _ _ h)
  case stop => cases e; exact G (C.stop _ _ _ h)
  case single => cases e; exact G (C.single _ _ _ h)
  case frameStart => cases e; exact U (C.frameStart _ _ h)
  case line => cases e; exact U (C.line _ _ _ h)
  case frameEnd => cases e; exact U (C.frameEnd _ _ h)
  case lossTimerExpiry => cases e; exact U (C.loss _ _ h)
  case cadenceMark =>
    unfold execCadenceMark at e; split at e
    · cases e; exact h
    · exact C.mark _ _ h e
  case selectionEvent => cases e; exact U (C.sel _ _ h)
  case tileDecision =>
    unfold execTileDecision at e; split at e
    · cases e; exact h
    · exact C.tile _ _ h e
  case sampleArithmeticDone => cases e; exact U (C.sample _ h)
  case burstComplete => cases e; exact C.burst _ h
  case lineTimeEnd => cases e; exact U (C.lineEnd _ h)
  case lineUnderrun => cases e; exact U (C.under _ h)
  case resetInputAsserted => cases e; exact C.link _ _ (C.asserted _ _ h)

/-- Every step keeps it. -/
theorem Closed.step (C : Closed P) (s t : State) (h : P s) (e : step s = .next t) : P t := by
  unfold Machine.step at e
  split at e
  · cases e; exact C.tick _ h
  · exact C.exec _ _ _ (C.pending _ _ h) e
end Sys2Proof.Machine
end

