-- ==== Sys2Proof/Laws/Pipeline.lean ====
section
/-! SUPPORT. What a composition start writes (R84), what the pipeline's moves do in each of their cases (R94), and the
sums that a tile's triples add to a zone (R108). -/

namespace Sys2Proof.Machine

/-! ### Composition start (R70, R84, R107, R117) -/

section compositionOpen
variable (k : Fin 3) (s : State)
@[simp] theorem compositionOpen_active : (compositionOpen k s).active = s.staged := by unfold compositionOpen; rfl
@[simp] theorem compositionOpen_timer : (compositionOpen k s).timer =
    { s.timer with lateRun := false, armed := Vector.replicate 4 true } := by unfold compositionOpen; rfl
@[simp] theorem compositionOpen_top : (compositionOpen k s).top = { s.top with shotPending := false } := by
  unfold compositionOpen; rfl
@[simp] theorem compositionOpen_zones : (compositionOpen k s).zones = Zone.cleared := by unfold compositionOpen; rfl
@[simp] theorem compositionOpen_out : (compositionOpen k s).out =
    { s.out with slots := s.out.slots.set k (.composing (s.comp.seq + 1#16)) } := by unfold compositionOpen; rfl
@[simp] theorem compositionOpen_comp : (compositionOpen k s).comp =
    s.comp.begin k s.out.scanning s.timer.timebase := by unfold compositionOpen; rfl
end compositionOpen

/-! ### Moves of the pipeline (R94) -/

/-- What a move between stages, without an issue, leaves alone. -/
structure Composer.SameIssued (c d : Composer) : Prop where
  index : d.index = c.index
  state : d.state = c.state
  fresh : d.fresh = c.fresh
  held : d.held = c.held
  filled : d.filled = c.filled
  decided : d.decided = c.decided

theorem Composer.SameIssued.trans {c d e : Composer} (h : c.SameIssued d) (g : d.SameIssued e) : c.SameIssued e :=
  ⟨g.1.trans h.1, g.2.trans h.2, g.3.trans h.3, g.4.trans h.4, g.5.trans h.5, g.6.trans h.6⟩

theorem Composer.toStore_issued (c : Composer) : c.SameIssued c.toStore := by
  unfold Composer.toStore; split <;> exact ⟨rfl, rfl, rfl, rfl, rfl, rfl⟩

theorem Composer.toSample_issued (c : Composer) (p : Params) : c.SameIssued (c.toSample p) := by
  unfold Composer.toSample; split <;> exact ⟨rfl, rfl, rfl, rfl, rfl, rfl⟩

/-- With no decided tile nothing is issued. -/
theorem Composer.advanceOnce_issued (c : Composer) (p : Params) (h : c.decided = none) :
    c.SameIssued (c.advanceOnce p) := by
  have g := (c.toStore_issued).trans (c.toStore.toSample_issued p)
  have e : (c.toStore.toSample p).issue = c.toStore.toSample p := by
    unfold Composer.issue; simp [g.decided, h]
  unfold Composer.advanceOnce
  rw [e]
  exact g

/-- While FETCH has bursts left nothing is issued. -/
theorem Composer.advance_busy (c : Composer) (p : Params) (t : Tile) (r : Run) (todo : List Run) (got : List Byte)
    (h : c.fetch = some ⟨t, r :: todo, got⟩) : c.SameIssued (c.advance p) := by
  have := Composer.advance_keeps (fun d => d.fetch = some ⟨t, r :: todo, got⟩ ∧ c.SameIssued d) p ?_ ?_ ?_ c
    ⟨h, rfl, rfl, rfl, rfl, rfl, rfl⟩
  · exact this.2
  · rintro d ⟨hd, g⟩
    exact ⟨by unfold Composer.toStore; split <;> exact hd, g.trans d.toStore_issued⟩
  · rintro d ⟨hd, g⟩
    refine ⟨?_, g.trans (d.toSample_issued p)⟩
    unfold Composer.toSample; split
    · simp_all
    · exact hd
  · rintro d ⟨hd, g⟩
    have e : d.issue = d := by unfold Composer.issue; simp [hd]
    rw [e]
    exact ⟨hd, g⟩

/-- A decided tile is issued at once when FETCH is free, and counted by its treatment (R88, R94). -/
theorem Composer.advance_issues (c : Composer) (p : Params) (t : Tile) (hd : c.decided = some t)
    (hs : c.state = .issuing) (hf : c.fetch = none) :
    (c.advance p).decided = none ∧ (c.advance p).index = c.index + 1 ∧
    (c.advance p).state = (if c.index + 1 = 384 then .draining else .issuing) ∧
    (c.advance p).fresh = c.fresh + (if t.treatment = .fresh then 1 else 0) ∧
    (c.advance p).filled = c.filled + (if t.treatment = .filled then 1 else 0) ∧
    (c.advance p).held = c.held + (if t.treatment = .fresh ∨ t.treatment = .filled then 0 else 1) := by
  have h1 := (c.toStore_issued).trans (c.toStore.toSample_issued p)
  have hf1 : (c.toStore.toSample p).fetch = none := by
    have : c.toStore.fetch = none := by unfold Composer.toStore; split <;> exact hf
    unfold Composer.toSample; split
    · rfl
    · exact this
  have e : (c.advanceOnce p).decided = none ∧ (c.advanceOnce p).index = c.index + 1 ∧
      (c.advanceOnce p).state = (if c.index + 1 = 384 then .draining else .issuing) ∧
      (c.advanceOnce p).fresh = c.fresh + (if t.treatment = .fresh then 1 else 0) ∧
      (c.advanceOnce p).filled = c.filled + (if t.treatment = .filled then 1 else 0) ∧
      (c.advanceOnce p).held = c.held + (if t.treatment = .fresh ∨ t.treatment = .filled then 0 else 1) := by
    unfold Composer.advanceOnce
    generalize c.toStore.toSample p = d at *
    have hs' := h1.state.trans hs
    have hd' := h1.decided.trans hd
    unfold Composer.issue
    simp only [hs', hd', hf1, h1.index, h1.fresh, h1.held, h1.filled]
    refine ⟨trivial, trivial, trivial, ?_, ?_, ?_⟩ <;> cases t.treatment <;> simp
  have g1 := Composer.advanceOnce_issued _ p e.1
  have g := g1.trans (Composer.advanceOnce_issued _ p (g1.decided.trans e.1))
  unfold Composer.advance
  rw [g.decided, g.index, g.state, g.fresh, g.filled, g.held]
  exact e

/-- With FETCH and SAMPLE empty and nothing to issue, nothing moves. -/
theorem Composer.advance_still (c : Composer) (p : Params) (hs : c.state ≠ .issuing) (hf : c.fetch = none)
    (hm : c.sample = none) : c.advance p = c := by
  have a : c.toStore = c := by unfold Composer.toStore; simp [hm]
  have b : c.toSample p = c := by unfold Composer.toSample; simp [hf]
  have i : c.issue = c := by unfold Composer.issue; split <;> simp_all
  have o : c.advanceOnce p = c := by unfold Composer.advanceOnce; rw [a, b, i]
  unfold Composer.advance
  rw [o, o, o]

/-- A round of moves leaves an occupied STORE as it is. -/
theorem Composer.advanceOnce_store (c : Composer) (p : Params) (x : StoreStage) (h : c.store = some x) :
    (c.advanceOnce p).store = some x := by
  have a : c.toStore.store = some x := by unfold Composer.toStore; simp [h]
  have b : (c.toStore.toSample p).store = some x := by unfold Composer.toSample; split <;> exact a
  unfold Composer.advanceOnce Composer.issue
  split <;> exact b

/-- A tile whose SAMPLE work is done moves to an empty STORE. -/
theorem Composer.advance_stores (c : Composer) (p : Params) (h : c.store = none) (t : Tile) (f : List Byte)
    (todo : List Run) (g px : List Byte) (hm : c.sample = some ⟨t, f, todo, g, some px⟩) :
    (c.advance p).store = some ⟨t, px, 0⟩ := by
  have a : c.toStore.store = some ⟨t, px, 0⟩ := by unfold Composer.toStore; simp [h, hm]
  have b : (c.toStore.toSample p).store = some ⟨t, px, 0⟩ := by unfold Composer.toSample; split <;> exact a
  have o : (c.advanceOnce p).store = some ⟨t, px, 0⟩ := by
    unfold Composer.advanceOnce Composer.issue
    split <;> exact b
  exact Composer.advanceOnce_store _ p _ (Composer.advanceOnce_store _ p _ o)

/-- It waits in SAMPLE while STORE is occupied. -/
theorem Composer.advance_waits (c : Composer) (p : Params) (x : StoreStage) (h : c.store = some x) (t : Tile)
    (f : List Byte) (todo : List Run) (g px : List Byte) (hm : c.sample = some ⟨t, f, todo, g, some px⟩) :
    (c.advance p).store = some x ∧ (c.advance p).sample = some ⟨t, f, todo, g, some px⟩ := by
  refine Composer.advance_keeps (fun c => c.store = some x ∧ c.sample = some ⟨t, f, todo, g, some px⟩) p
    ?_ ?_ ?_ c ⟨h, hm⟩
  · rintro c ⟨h, hm⟩; unfold Composer.toStore; simp [h, hm]
  · rintro c ⟨h, hm⟩; unfold Composer.toSample; simp [h, hm]
  · rintro c ⟨h, hm⟩; unfold Composer.issue; split <;> simp [h, hm]

/-- A return from WAITING changes the composer state alone (R89). -/
theorem Composer.resume_selection (c : Composer) : c.resume.selection = c.selection := by
  unfold Composer.resume; split <;> [(split <;> [(split <;> rfl); rfl]); rfl]

/-! ### Notices and coverage (R98, R152) -/

/-- What a notice does to the link. -/
theorem State.notice_link (s : State) (k : NoticeKind) (p : List Byte) : (s.notice k p).link =
    if s.link.mask.getLsbD k.bit = false then s.link
    else if 14 ≤ s.link.queue.length then { s.link with missed := true }
    else { s.link with queue := s.link.queue ++ [⟨k.code, 0#8, p⟩] } := by
  unfold State.notice; split
  · rfl
  · split <;> rfl

/-- The composition's availability set becomes the reference. -/
theorem settleCoverage_comp (s : State) :
    (settleCoverage s).comp = { s.comp with coverage := some s.comp.availability } := by
  unfold settleCoverage; simp only []; split <;> simp

/-! ### Zone sums (R108) -/

/-- The primary is the zone's first camera. -/
theorem foldl_zoneAdd_first (z : Fin 4) (ts : List (Nat × Nat)) : ∀ r : Zone,
    ts.foldl (fun r t => Zone.add z z t.1 t.2 r) r =
      ⟨r.first + (ts.map Prod.fst).sum, r.second + (ts.map Prod.snd).sum, r.count + ts.length⟩ := by
  induction ts with
  | nil => exact fun _ => rfl
  | cons t ts ih =>
    intro r
    rw [List.foldl_cons, ih]
    simp only [List.map_cons, List.sum_cons, List.length_cons, Zone.add, if_true]
    refine Zone.mk.injEq .. |>.mpr ⟨?_, ?_, ?_⟩ <;> omega

/-- The primary is its second camera. -/
theorem foldl_zoneAdd_second (z p : Fin 4) (h : p ≠ z) (ts : List (Nat × Nat)) : ∀ r : Zone,
    ts.foldl (fun r t => Zone.add z p t.1 t.2 r) r =
      ⟨r.first + (ts.map Prod.snd).sum, r.second + (ts.map Prod.fst).sum, r.count + ts.length⟩ := by
  induction ts with
  | nil => exact fun _ => rfl
  | cons t ts ih =>
    intro r
    rw [List.foldl_cons, ih]
    simp only [List.map_cons, List.sum_cons, List.length_cons, Zone.add, if_neg h]
    refine Zone.mk.injEq .. |>.mpr ⟨?_, ?_, ?_⟩ <;> omega

end Sys2Proof.Machine
end

