-- ==== Sys2Proof/Laws/Ends.lean ====
section
/-! SUPPORT. What the end of a composition, a completed burst and a STOP do to the whole state, each said once, and the
pipeline at rest after its moves. -/

namespace Sys2Proof.Machine

/-! ### A completed burst (R129) -/

/-- Outside the memory start the body fill has no part in a burst's completion (R128). -/
theorem resumeFill_of_complete (s : State) (h : s.memStart = .complete) : resumeFill s = s := by
  simp [resumeFill, h]

/-- A burst whose work stands lands, is credited, and the port makes its next grant (R129, R132). -/
theorem burstComplete_wanted (b : Burst) (s : State) (ht : s.resetAsserted = false) (hp : s.arb.port = some b)
    (hw : b.wanted = true) :
    burstComplete s = arbitrate (resumeFill (creditBurst b (burstRead b s) (landBurst b s))) := by
  simp [burstComplete, hp, ht, hw]

/-- A burst whose work has ended lands and is credited to nobody (R129). -/
theorem burstComplete_unwanted (b : Burst) (s : State) (ht : s.resetAsserted = false) (hm : s.memStart = .complete)
    (hp : s.arb.port = some b) (hw : b.wanted = false) : burstComplete s = arbitrate (landBurst b s) := by
  simp only [burstComplete, hp, ht, hw]
  rw [if_neg (by simp), if_neg (by simp), resumeFill_of_complete _ (by simpa using hm)]

/-! ### A reset's, a mark's and a STOP's hold on the burst on the port (R119, R129) -/

theorem Arbiter.unwantIf_none (p : Client → Bool) (a : Arbiter) (h : a.port = none) : a.unwantIf p = a := by
  simp [Arbiter.unwantIf, h]

/-- The burst on the port of a client named loses its work; every other burst keeps it. -/
theorem Arbiter.unwantIf_some (p : Client → Bool) (a : Arbiter) (b : Burst) (h : a.port = some b) :
    a.unwantIf p = if p b.client then { a with port := some { b with wanted := false } } else a := by
  simp [Arbiter.unwantIf, Arbiter.unwant, h]

/-! ### The end of a composition (R75, R63, R98, R109, R138) -/

/-- After a composition's end no point is armed, and each point still armed is recorded NOT_REACHED; nothing else
changes (R75). -/
theorem cancelPoints_whole (s : State) : cancelPoints s =
    (s.setTimer { s.timer with armed := Vector.replicate 4 false }).setComp { s.comp with
      selection := Vector.ofFn fun i =>
        if s.timer.armed[i] then .unavailable .notReached else s.comp.selection[i] } := by
  have ha : (cancelPoints s).timer.armed = Vector.replicate 4 false := by
    apply Vector.ext
    intro i hi
    have := cancelPoints_armed s ⟨i, hi⟩
    simp at this ⊢
    exact this
  have hs : (cancelPoints s).comp.selection = Vector.ofFn fun i =>
      if s.timer.armed[i] then .unavailable .notReached else s.comp.selection[i] := by
    apply Vector.ext
    intro i hi
    have := cancelPoints_selection s ⟨i, hi⟩
    simp only [Vector.getElem_ofFn]
    exact this
  conv_lhs => rw [cancelPoints_eq, ha, hs]

/-- R63 slot by slot: IN_USE becomes EMPTY at an OFF camera or under the discard mark, else READY and used; the mark is
cleared. -/
theorem Camera.release_slots (c : Camera) : c.release = { c with
    discard := false
    slots := Vector.ofFn fun j => match c.slots[j] with
      | .inUse n a b l => if c.state = .off ∨ c.discard = true then .empty else .ready n a b l true
      | x => x } := by
  have h : c.slots.map (RingSlot.release (decide (c.state = .off) || c.discard)) = Vector.ofFn fun j =>
      match c.slots[j] with
      | .inUse n a b l => if c.state = .off ∨ c.discard = true then .empty else .ready n a b l true
      | x => x := by
    apply Vector.ext
    intro j hj
    simp only [Vector.getElem_map, Vector.getElem_ofFn, Fin.getElem_fin]
    cases c.slots[j] <;> simp [RingSlot.release]
  unfold Camera.release
  rw [h]

/-- The cameras whose entry is available release, and nothing else changes (R63). -/
theorem releaseSlots_whole (s : State) : releaseSlots s = s.setCams (Vector.ofFn fun i =>
    match s.comp.selection[i] with
    | .available _ => s.cams[i].release
    | _ => s.cams[i]) := by
  have one : ∀ (i : Fin 4) (t : State), releaseSlot i t = t.setCams (releaseSlot i t).cams := by
    intro i t
    unfold releaseSlot
    split <;> rfl
  have h : releaseSlots s = s.setCams (releaseSlots s).cams := by
    simp only [releaseSlots, forCams]
    rw [one 3, one 2, one 1, one 0]
    rfl
  rw [h]
  congr 1
  apply Vector.ext
  intro i hi
  have := releaseSlots_get s ⟨i, hi⟩
  simp only [Vector.getElem_ofFn]
  exact this

/-- A notice changes the link alone (R152); `State.notice_link` says to what. -/
theorem State.notice_whole (s : State) (k : NoticeKind) (p : List Byte) :
    s.notice k p = s.setLink (s.notice k p).link := by
  unfold State.notice
  split
  · rfl
  · split <;> rfl

/-- Frame complete makes the availability set the reference and hands a notice when it differs (R98). -/
theorem settleCoverage_whole (s : State) : settleCoverage s =
    (s.setComp { s.comp with coverage := some s.comp.availability }).setLink
      (if s.comp.coverage = some s.comp.availability then s.link
       else (s.notice .coverage (coveragePayload s.comp)).link) := by
  unfold settleCoverage
  simp only []
  split
  · rfl
  · rw [State.notice_whole]
    congr 1
    rw [State.notice_link, State.notice_link]
    rfl

/-- The shot is settled in SHOT alone (R138). -/
theorem settleShot_whole (s : State) : settleShot s = if s.top.state = .shot then
    (s.setTop s.top.completeShot).setLink
      (s.notice .shotDone (le16 s.comp.seq.toNat ++ [s.top.completeShot.state.code])).link else s := by
  unfold settleShot
  split
  · rw [State.notice_whole]
    congr 1
    rw [State.notice_link, State.notice_link]
    rfl
  · rfl

/-- A STOP frees the PUBLISHED slot and sets the blank flag (R118). -/
theorem Output.stop_slots (o : Output) : o.stop = { o with
    blank := true
    slots := Vector.ofFn fun k => if o.slots[k].isPublished then .free else o.slots[k] } := by
  have h : o.slots.map OutSlot.unpublish =
      Vector.ofFn fun k => if o.slots[k].isPublished then .free else o.slots[k] := by
    apply Vector.ext
    intro j hj
    simp only [Vector.getElem_map, Vector.getElem_ofFn, Fin.getElem_fin]
    cases o.slots[j] <;> rfl
  unfold Output.stop
  rw [h]

/-- A rotation changes the slots and the blank flag alone (R116). -/
theorem Output.rotate_rest (o : Output) (t : TopState) :
    o.rotate t = { o with slots := (o.rotate t).slots, blank := (o.rotate t).blank } := by
  unfold Output.rotate
  dsimp only
  split <;> rfl

/-! ### The pipeline at rest (R94) -/

/-- No tile can move from SAMPLE to STORE. -/
theorem Composer.toStore_of_rest (c : Composer)
    (h : c.sample = none ∨ c.store ≠ none ∨ ∃ t f td g, c.sample = some ⟨t, f, td, g, none⟩) : c.toStore = c := by
  unfold Composer.toStore
  split
  · rcases h with h | h | ⟨_, _, _, _, h⟩ <;> simp_all
  · rfl

/-- No tile can move from FETCH to SAMPLE. -/
theorem Composer.toSample_of_rest (c : Composer) (p : Params)
    (h : c.fetch = none ∨ c.sample ≠ none ∨ ∃ t r td g, c.fetch = some ⟨t, r :: td, g⟩) : c.toSample p = c := by
  unfold Composer.toSample
  split
  · rcases h with h | h | ⟨_, _, _, _, h⟩ <;> simp_all
  · rfl

/-- Nothing is issued without a decided tile, or outside ISSUING. -/
theorem Composer.issue_of_rest (c : Composer) (h : c.decided = none ∨ c.state ≠ .issuing) : c.issue = c := by
  unfold Composer.issue
  split
  · rcases h with h | h <;> simp_all
  · rfl

/-- A decided tile enters a free FETCH (R88, R94). -/
theorem Composer.issue_decided (c : Composer) (t : Tile) (h : c.state = .issuing) (hd : c.decided = some t)
    (hf : c.fetch = none) : c.issue = { c with
      decided := none, index := c.index + 1, fetch := some ⟨t, t.fetchRuns.flatMap Run.cut, []⟩
      mapRuns := c.mapRuns.filter fun m => decide (c.index + 1 ≤ 64 * m.run + 63)
      state := if c.index + 1 = 384 then .draining else .issuing
      fresh := c.fresh + if t.treatment = .fresh then 1 else 0
      filled := c.filled + if t.treatment = .filled then 1 else 0
      held := c.held + if t.treatment = .fresh ∨ t.treatment = .filled then 0 else 1 } := by
  unfold Composer.issue
  simp only [h, hd, hf]
  congr 1 <;> cases t.treatment <;> simp

/-- Two rounds without an issue bring the pipeline to rest. -/
theorem Composer.two_rounds_rest (c : Composer) (p : Params) :
    let d := (c.toStore.toSample p).toStore.toSample p
    d.toStore = d ∧ d.toSample p = d := by
  obtain ⟨state, index, decided, fetch, sample, store, mapRuns, selection, slot, hold, markTime, holdTable, freshStart,
    coverage, fresh, held, filled, seq, late, history⟩ := c
  rcases store with _ | st <;> rcases sample with _ | ⟨t, f, td, g, _ | px⟩ <;>
    rcases fetch with _ | ⟨t', _ | ⟨r, td'⟩, g'⟩ <;>
    simp only [Composer.toStore, Composer.toSample, and_self]
  all_goals (cases t'.fromCameras <;> simp)

end Sys2Proof.Machine
end

