-- ==== Sys2Proof/Laws/Memory.lean ====
section
/-! SUPPORT. The DRAM: a read after a write, writes elsewhere, and that every operation keeps the canonical
form (R127, R129). -/

namespace Sys2Proof.Machine

theorem Memory.read_cons_same (m : List Host.Cell) (a : Nat) (b : Byte) (h : Memory.read m a = Memory.background a) :
    Memory.read (Memory.cons a b m) a = b := by
  unfold Memory.cons
  split <;> simp_all [Memory.read]

theorem Memory.read_cons_other (m : List Host.Cell) (a c : Nat) (b : Byte) (h : c ≠ a) :
    Memory.read (Memory.cons a b m) c = Memory.read m c := by
  unfold Memory.cons
  split
  · rfl
  · simp [Memory.read, Ne.symm h]

/-- An address below every listed one is unlisted. -/
theorem Memory.read_of_wfFrom (m : List Host.Cell) (lo a : Nat) (h : Memory.wfFrom lo m = true) (ha : a < lo) :
    Memory.read m a = Memory.background a := by
  induction m generalizing lo with
  | nil => rfl
  | cons kv m ih =>
    obtain ⟨k, v⟩ := kv
    simp only [Memory.wfFrom, Bool.and_eq_true, decide_eq_true_eq] at h
    have hk : k ≠ a := by omega
    simpa [Memory.read, hk] using ih (k + 1) h.2 (by omega)

theorem Memory.wfFrom_mono (m : List Host.Cell) (lo lo' : Nat) (h : Memory.wfFrom lo m = true) (hl : lo' ≤ lo) :
    Memory.wfFrom lo' m = true := by
  cases m with
  | nil => rfl
  | cons kv m =>
    simp only [Memory.wfFrom, Bool.and_eq_true, decide_eq_true_eq] at h ⊢
    exact ⟨⟨by omega, h.1.2⟩, h.2⟩

theorem Memory.wfFrom_cons (m : List Host.Cell) (lo a : Nat) (b : Byte) (h : Memory.wfFrom (a + 1) m = true)
    (hl : lo ≤ a) : Memory.wfFrom lo (Memory.cons a b m) = true := by
  unfold Memory.cons
  split
  · exact Memory.wfFrom_mono m (a + 1) lo h (by omega)
  · rename_i hb
    simp [Memory.wfFrom, hl, hb, h]

/-- A write keeps the canonical form from a lower bound on. -/
theorem Memory.wfFrom_write (m : List Host.Cell) (lo a : Nat) (b : Byte) (h : Memory.wfFrom lo m = true)
    (hl : lo ≤ a) : Memory.wfFrom lo (Memory.write m a b) = true := by
  induction m generalizing lo with
  | nil => exact Memory.wfFrom_cons [] lo a b rfl hl
  | cons kv m ih =>
    obtain ⟨k, v⟩ := kv
    have h' := h
    simp only [Memory.wfFrom, Bool.and_eq_true, decide_eq_true_eq] at h'
    rw [Memory.write]
    split
    · rename_i hlt
      refine Memory.wfFrom_cons _ lo a b ?_ hl
      simp only [Memory.wfFrom, Bool.and_eq_true, decide_eq_true_eq]
      exact ⟨⟨by omega, h'.1.2⟩, h'.2⟩
    · split
      · rename_i _ he
        subst he
        exact Memory.wfFrom_cons m lo a b h'.2 hl
      · have hk : k + 1 ≤ a := by omega
        simp only [Memory.wfFrom, Bool.and_eq_true, decide_eq_true_eq]
        exact ⟨h'.1, ih (k + 1) h'.2 hk⟩

/-- A write keeps the canonical form. -/
theorem Memory.wf_write (m : List Host.Cell) (a : Nat) (b : Byte) (h : Memory.wf m = true) :
    Memory.wf (Memory.write m a b) = true :=
  Memory.wfFrom_write m 0 a b h (Nat.zero_le a)

/-- A run of writes keeps the canonical form. -/
theorem Memory.wf_writeRun (bs : List Byte) (m : List Host.Cell) (a : Nat) (h : Memory.wf m = true) :
    Memory.wf (Memory.writeRun m a bs) = true := by
  induction bs generalizing m a with
  | nil => exact h
  | cons b bs ih => exact ih _ _ (Memory.wf_write m a b h)

/-- A write leaves every other address alone. -/
theorem Memory.read_write_other (m : List Host.Cell) (a c : Nat) (b : Byte) (h : c ≠ a) :
    Memory.read (Memory.write m a b) c = Memory.read m c := by
  induction m with
  | nil => exact Memory.read_cons_other [] a c b h
  | cons kv m ih =>
    obtain ⟨k, v⟩ := kv
    rw [Memory.write]
    split
    · exact Memory.read_cons_other _ a c b h
    · split
      · rename_i _ he
        rw [Memory.read_cons_other m a c b h]
        simp [Memory.read, show k ≠ c by omega]
      · simp only [Memory.read, ih]

/-- A read after a write to the same address gives the byte written, in a canonical memory. -/
theorem Memory.read_write_same_from (m : List Host.Cell) (lo a : Nat) (b : Byte) (h : Memory.wfFrom lo m = true)
    : Memory.read (Memory.write m a b) a = b := by
  induction m generalizing lo with
  | nil => exact Memory.read_cons_same [] a b rfl
  | cons kv m ih =>
    obtain ⟨k, v⟩ := kv
    have h' := h
    simp only [Memory.wfFrom, Bool.and_eq_true, decide_eq_true_eq] at h'
    rw [Memory.write]
    split
    · refine Memory.read_cons_same _ a b ?_
      exact Memory.read_of_wfFrom ((k, v) :: m) k a
        (by simp only [Memory.wfFrom, Bool.and_eq_true, decide_eq_true_eq]; exact ⟨⟨le_refl _, h'.1.2⟩, h'.2⟩) (by omega)
    · split
      · rename_i _ he
        exact Memory.read_cons_same m a b (Memory.read_of_wfFrom m (k + 1) a h'.2 (by omega))
      · rename_i _ he
        simp only [Memory.read, Ne.symm he, if_false]
        exact ih (k + 1) h'.2

theorem Memory.read_write_same (m : List Host.Cell) (a : Nat) (b : Byte) (h : Memory.wf m = true) :
    Memory.read (Memory.write m a b) a = b :=
  Memory.read_write_same_from m 0 a b h

/-- A run of writes leaves every address outside it alone. -/
theorem Memory.read_writeRun_other (bs : List Byte) (m : List Host.Cell) (a c : Nat)
    (h : c < a ∨ a + bs.length ≤ c) : Memory.read (Memory.writeRun m a bs) c = Memory.read m c := by
  induction bs generalizing m a with
  | nil => rfl
  | cons b bs ih =>
    simp only [List.length_cons] at h
    rw [Memory.writeRun, ih _ _ (by omega), Memory.read_write_other m a c b (by omega)]

/-- Reading back a run that was written gives the bytes written. -/
theorem Memory.readRun_writeRun (bs : List Byte) (m : List Host.Cell) (a : Nat) (h : Memory.wf m = true) :
    Memory.readRun (Memory.writeRun m a bs) a bs.length = bs := by
  induction bs generalizing m a with
  | nil => rfl
  | cons b bs ih =>
    rw [List.length_cons, Memory.writeRun, Memory.readRun, ih _ _ (Memory.wf_write m a b h),
      Memory.read_writeRun_other bs _ (a + 1) a (by omega), Memory.read_write_same m a b h]

theorem Memory.readRun_length (m : List Host.Cell) (n a : Nat) : (Memory.readRun m a n).length = n := by
  induction n generalizing a with
  | zero => rfl
  | succ n ih => simp [Memory.readRun, ih]

end Sys2Proof.Machine
end

