-- ==== Sys2Proof/Laws/Pixels.lean ====
section
/-! SUPPORT. The bounds of the interpolations of Section 1, and where the bytes that SAMPLE read of a view stand among
them: the spans of a view, their order, and the pixel found in them (R12, R95). -/

namespace Sys2Proof.Machine

/-! ### Interpolation stays between its ends (R6, R8, R9, R10) -/

/-- R6 between lo and hi, rounded toward minus infinity, never leaves them. -/
theorem heightInterp_between (lo hi f : Nat) (hf : f ≤ 255) :
    (lo ≤ hi → lo ≤ heightInterp lo hi f ∧ heightInterp lo hi f ≤ hi) ∧
    (hi ≤ lo → hi ≤ heightInterp lo hi f ∧ heightInterp lo hi f ≤ lo) := by
  unfold heightInterp
  constructor <;> intro h
  · obtain ⟨d, rfl⟩ := Nat.exists_eq_add_of_le h
    have e : (((lo + d : Nat) : Int) - lo) * f = ((d * f : Nat) : Int) := by push_cast; ring
    rw [e]
    have : d * f ≤ d * 255 := Nat.mul_le_mul_left d hf
    generalize d * f = x at *
    omega
  · obtain ⟨d, rfl⟩ := Nat.exists_eq_add_of_le h
    have e : ((hi : Int) - ((hi + d : Nat) : Int)) * f = - ((d * f : Nat) : Int) := by push_cast; ring
    rw [e]
    have : d * f ≤ d * 255 := Nat.mul_le_mul_left d hf
    generalize d * f = x at *
    omega

/-- The corner weights of a cell sum to 64, so the mean lies between any bounds of the corners (R9). -/
theorem cellMix_between (a b p q r s m n : Nat) (ha : a ≤ 8) (hb : b ≤ 8)
    (h : m ≤ p ∧ m ≤ q ∧ m ≤ r ∧ m ≤ s) (h' : p ≤ n ∧ q ≤ n ∧ r ≤ n ∧ s ≤ n) :
    m ≤ cellMix a b p q r s ∧ cellMix a b p q r s ≤ n := by
  unfold cellMix
  have hw : (8 - a) * (8 - b) + a * (8 - b) + (8 - a) * b + a * b = 64 := by
    interval_cases a <;> interval_cases b <;> rfl
  generalize (8 - a) * (8 - b) = w0 at *
  generalize a * (8 - b) = w1 at *
  generalize (8 - a) * b = w2 at *
  generalize a * b = w3 at *
  have l : m * 64 ≤ p * w0 + q * w1 + r * w2 + s * w3 := by
    rw [← hw]
    nlinarith [Nat.mul_le_mul_right w0 h.1, Nat.mul_le_mul_right w1 h.2.1, Nat.mul_le_mul_right w2 h.2.2.1,
      Nat.mul_le_mul_right w3 h.2.2.2]
  have u : p * w0 + q * w1 + r * w2 + s * w3 ≤ n * 64 := by
    rw [← hw]
    nlinarith [Nat.mul_le_mul_right w0 h'.1, Nat.mul_le_mul_right w1 h'.2.1, Nat.mul_le_mul_right w2 h'.2.2.1,
      Nat.mul_le_mul_right w3 h'.2.2.2]
  omega

/-! ### The spans of a view (R12, R95) -/

/-- Columns lo to hi of the row lie in one span of the list. -/
def Span.Covered (l : List Span) (row lo hi : Nat) : Prop := ∃ sp ∈ l, sp.row = row ∧ sp.lo ≤ lo ∧ hi ≤ sp.hi

/-- The rows strictly rise. -/
def Span.Rising (l : List Span) : Prop := l.Pairwise fun a b => a.row < b.row

theorem addSpan_rows (row lo hi : Nat) (l : List Span) :
    ∀ sp ∈ addSpan row lo hi l, sp.row = row ∨ ∃ sp' ∈ l, sp'.row = sp.row := by
  induction l with
  | nil =>
    intro sp h
    simp [addSpan] at h
    exact .inl (by rw [h])
  | cons x l ih =>
    intro sp h
    unfold addSpan at h
    split at h
    · rcases List.mem_cons.mp h with rfl | h
      · exact .inl rfl
      · exact .inr ⟨sp, h, rfl⟩
    · split at h
      · rcases List.mem_cons.mp h with rfl | h
        · exact .inl rfl
        · exact .inr ⟨sp, by simp [h], rfl⟩
      · rcases List.mem_cons.mp h with rfl | h
        · exact .inr ⟨sp, by simp, rfl⟩
        · rcases ih sp h with h | ⟨sp', h, e⟩
          · exact .inl h
          · exact .inr ⟨sp', by simp [h], e⟩

theorem addSpan_rising (row lo hi : Nat) (l : List Span) (h : Span.Rising l) : Span.Rising (addSpan row lo hi l) := by
  induction l with
  | nil => simp [addSpan, Span.Rising]
  | cons x l ih =>
    have h1 := List.pairwise_cons.mp h
    unfold addSpan
    split
    · rename_i hr
      refine List.pairwise_cons.mpr ⟨fun y hy => ?_, h⟩
      rcases List.mem_cons.mp hy with rfl | hy
      · exact hr
      · have := h1.1 y hy
        simp
        omega
    · split
      · refine List.pairwise_cons.mpr ⟨fun y hy => ?_, h1.2⟩
        have := h1.1 y hy
        simp
        omega
      · refine List.pairwise_cons.mpr ⟨fun y hy => ?_, ih h1.2⟩
        rcases addSpan_rows _ _ _ _ y hy with e | ⟨z, hz, e⟩
        · omega
        · have := h1.1 z hz
          omega

theorem addSpan_covers (row lo hi : Nat) (l : List Span) : Span.Covered (addSpan row lo hi l) row lo hi := by
  induction l with
  | nil => exact ⟨⟨row, lo, hi⟩, by simp [addSpan], rfl, le_refl _, le_refl _⟩
  | cons x l ih =>
    unfold addSpan
    split
    · exact ⟨_, List.mem_cons_self, rfl, le_refl _, le_refl _⟩
    · split
      · exact ⟨_, List.mem_cons_self, rfl, Nat.min_le_left _ _, Nat.le_max_left _ _⟩
      · obtain ⟨sp, h, e⟩ := ih
        exact ⟨sp, by simp [h], e⟩

theorem addSpan_keeps (row lo hi r a b : Nat) (l : List Span) (h : Span.Covered l r a b) :
    Span.Covered (addSpan row lo hi l) r a b := by
  induction l with
  | nil =>
    obtain ⟨_, h, _⟩ := h
    cases h
  | cons x l ih =>
    obtain ⟨sp, hm, e1, e2, e3⟩ := h
    unfold addSpan
    split
    · exact ⟨sp, by simp at hm ⊢; tauto, e1, e2, e3⟩
    · split
      · rcases List.mem_cons.mp hm with rfl | hm
        · exact ⟨_, List.mem_cons_self, by simp; omega, by simp; omega, by simp; omega⟩
        · exact ⟨sp, by simp [hm], e1, e2, e3⟩
      · rcases List.mem_cons.mp hm with rfl | hm
        · exact ⟨_, List.mem_cons_self, e1, e2, e3⟩
        · obtain ⟨sp', h, e⟩ := ih ⟨sp, hm, e1, e2, e3⟩
          exact ⟨sp', by simp [h], e⟩

/-- The rows of a view's spans strictly rise, so each row is read in one run (R95). -/
theorem spansOf_rising (pts : List (Option (Nat × Nat))) (a : Answer) : Span.Rising (spansOf pts a) := by
  have go : ∀ (ps : List (Nat × Nat)) (l : List Span), Span.Rising l →
      Span.Rising (ps.foldl (fun spans xy => touch a (sourcePos pts xy.1 xy.2) spans) l) := by
    intro ps
    induction ps with
    | nil => exact fun l h => h
    | cons p ps ih =>
      intro l h
      refine ih _ ?_
      dsimp only [touch]
      split
      · exact h
      · exact addSpan_rising _ _ _ _ (addSpan_rising _ _ _ _ h)
  exact go _ _ (by simp [Span.Rising])

/-- Both source rows of a pixel with a view are covered from its first to its second column, all clamped (R12, R95). -/
theorem spansOf_covers (pts : List (Option (Nat × Nat))) (a : Answer) (x y u v : Nat) (hx : x < 32) (hy : y < 32)
    (h : sourcePos pts x y = some (u, v)) :
    Span.Covered (spansOf pts a) (clampTo a.height (v / 16)) (clampTo a.width (u / 16))
      (clampTo a.width (u / 16 + 1)) ∧
    Span.Covered (spansOf pts a) (clampTo a.height (v / 16 + 1)) (clampTo a.width (u / 16))
      (clampTo a.width (u / 16 + 1)) := by
  have keeps : ∀ (ps : List (Nat × Nat)) (r i j : Nat) (l : List Span), Span.Covered l r i j →
      Span.Covered (ps.foldl (fun spans xy => touch a (sourcePos pts xy.1 xy.2) spans) l) r i j := by
    intro ps r i j
    induction ps with
    | nil => exact fun l h => h
    | cons p ps ih =>
      intro l h
      refine ih _ ?_
      dsimp only [touch]
      split
      · exact h
      · exact addSpan_keeps _ _ _ _ _ _ _ (addSpan_keeps _ _ _ _ _ _ _ h)
  have go : ∀ (ps : List (Nat × Nat)) (l : List Span), (x, y) ∈ ps →
      let d := ps.foldl (fun spans xy => touch a (sourcePos pts xy.1 xy.2) spans) l
      Span.Covered d (clampTo a.height (v / 16)) (clampTo a.width (u / 16)) (clampTo a.width (u / 16 + 1)) ∧
      Span.Covered d (clampTo a.height (v / 16 + 1)) (clampTo a.width (u / 16)) (clampTo a.width (u / 16 + 1)) := by
    intro ps
    induction ps with
    | nil => exact fun _ h => absurd h (by simp)
    | cons q ps ih =>
      intro l hp
      rcases List.mem_cons.mp hp with rfl | hp
      · simp only [List.foldl_cons, h]
        exact ⟨keeps _ _ _ _ _ (addSpan_keeps _ _ _ _ _ _ _ (addSpan_covers _ _ _ _)),
          keeps _ _ _ _ _ (addSpan_covers _ _ _ _)⟩
      · exact ih _ hp
  refine go localPixels [] ?_
  simp only [localPixels, List.mem_map, List.mem_range]
  exact ⟨32 * y + x, by omega, by simp [Prod.ext_iff]; omega⟩

/-! ### The bytes of a span -/

theorem Memory.byteAt_readRun (m : List Host.Cell) (n a i : Nat) (h : i < n) :
    byteAt (Memory.readRun m a n) i = Memory.read m (a + i) := by
  induction n generalizing a i with
  | zero => omega
  | succ n ih =>
    cases i with
    | zero => rfl
    | succ i =>
      have := ih (a + 1) i (by omega)
      simp only [Memory.readRun, byteAt, List.getD_cons_succ] at this ⊢
      rw [this]
      congr 1
      omega

/-- Among the bytes read of rising spans, a covered pixel is found at its column of its row. -/
theorem sourcePixel_found (m : List Host.Cell) (addr : Span → Nat) (l : List Span) (h : Span.Rising l) (sp : Span)
    (hm : sp ∈ l) (c : Nat) (h1 : sp.lo ≤ c) (h2 : c ≤ sp.hi) (tail : List Byte) :
    let a := addr sp + 3 * (c - sp.lo)
    sourcePixel l ((l.flatMap fun s => Memory.readRun m (addr s) s.bytes) ++ tail) sp.row c =
      ⟨Memory.read m a, Memory.read m (a + 1), Memory.read m (a + 2)⟩ := by
  induction l with
  | nil => cases hm
  | cons x l ih =>
    have hh := List.pairwise_cons.mp h
    have left : ∀ (xs ys : List Byte) (i : Nat), i < xs.length → byteAt (xs ++ ys) i = byteAt xs i := by
      intro xs ys i hi
      simp [byteAt, List.getD_eq_getElem?_getD, List.getElem?_append_left hi]
    unfold sourcePixel
    rcases List.mem_cons.mp hm with rfl | e
    · rw [if_pos rfl]
      have hb : 3 * (c - sp.lo) + 2 < sp.bytes := by unfold Span.bytes; omega
      have hl := Memory.readRun_length m sp.bytes (addr sp)
      simp only [List.flatMap_cons, List.append_assoc, pixelAt]
      rw [left _ _ _ (by omega), left _ _ _ (by omega), left _ _ _ (by omega),
        Memory.byteAt_readRun _ _ _ _ (by omega), Memory.byteAt_readRun _ _ _ _ (by omega),
        Memory.byteAt_readRun _ _ _ _ (by omega)]
      simp [Nat.add_assoc]
    · have hne : x.row ≠ sp.row := by have := hh.1 sp e; omega
      rw [if_neg hne, List.flatMap_cons, List.append_assoc, List.drop_left' (Memory.readRun_length ..)]
      exact ih hh.2 e

end Sys2Proof.Machine
end

