-- ==== Sys2Proof/Tests/Slice0.lean ====
section
/-! SUPPORT. Tests. Expected values come from the manual's worked cases and tables, named at each group.
The second half holds, for each statement with hypotheses, a theorem `witness_<Statement>` that meets them. -/

set_option Elab.async false

namespace Sys2Proof.Tests

open Sys2Proof Sys2Proof.Machine

/-! ### States -/

/-- The next state, or the reset state at a stop. -/
def after (r : Result) : State :=
  match r with
  | .next t => t
  | .fault _ => State.reset
  | .refused _ => State.reset

/-- The part after STARTED. -/
def started : State := State.reset.setMemStart .complete

/-- The payload of the newest queued message. -/
def lastPayload (s : State) : List Byte := (s.link.queue.getLast?.map Message.payload).getD []

/-- The started part with `n` queued messages. -/
def queued (n : Nat) : State :=
  started.setLink { Link.default with queue := List.replicate n ⟨0x81#8, 1#8, [0#8]⟩ }

/-- The started part in a top state. -/
def inTop (t : TopState) : State := started.setTop ⟨t, false, false⟩

/-- The directory of 2.10: banks 0, 1 and 4 READY with one digest, bank 2 with another, bank 6 FAULTY. -/
def banks210 : Vector BankEntry 8 :=
  #v[.ready 0x3A91C07E#32, .ready 0x3A91C07E#32, .ready 0x5C07E11B#32, .empty, .ready 0x3A91C07E#32, .empty,
    .faulty, .loading]

def withBanks : State := started.setBanks { Banks.default with dir := banks210 }

/-- Camera 1 of 3.8 with given slots, in a given state. -/
def camFR (st : CamState) (slots : Vector RingSlot 4) : Camera :=
  { Camera.default with state := st, loss := some 200000, slots := slots, frameCounter := 4#16, good := 4 }

def emptySlots : Vector RingSlot 4 := Vector.replicate 4 .empty

/-- The started part with camera 1 as given, at a timebase value. -/
def withFR (c : Camera) (now : Nat) : State :=
  (started.setCam 1 c).setTimer { Timer.default with timebase := BitVec.ofNat 32 now }

/-! ### Well-formedness: each check refuses an ill-formed command -/

theorem test_wf_refuses_long_payload : (Instr.ident 0#8 (List.replicate 1025 0#8)).wf = false := by decide +kernel
theorem test_wf_refuses_known_kind : (Instr.unknownKind 0x40#8 0#8 []).wf = false := by decide +kernel
theorem test_wf_refuses_half_pixel : (Instr.line 0 [1#8, 2#8, 3#8]).wf = false := by decide +kernel
theorem test_wf_takes_full_payload : (Instr.bankWrite 0#8 (List.replicate 1024 0#8)).wf = true := by decide +kernel

/-! ### Checks and byte order (check values of R32 and R148 over "123456789") -/

def digits : List Byte := [0x31#8, 0x32#8, 0x33#8, 0x34#8, 0x35#8, 0x36#8, 0x37#8, 0x38#8, 0x39#8]

theorem test_crc32_check_value : crc32 digits = 0xCBF43926#32 := by decide +kernel
theorem test_crc16_check_value : crc16 digits = 0x29B1#16 := by decide +kernel
theorem test_signed_field : leInt16 (-250) = [0x06#8, 0xFF#8] := by decide +kernel

/-- 11.6: STARTED has 9 bytes, a CAM_ON reply 8. -/
theorem test_message_sizes : (startedMessage false Banks.default.dir).bytes.length = 9 ∧
    (Message.mk 0x91#8 1#8 [0#8]).bytes.length = 8 := by decide +kernel

/-! ### Section 1: the worked cases of 1.9 -/

def table191 : List TableEntry := [⟨-60, 1⟩, ⟨0, 0⟩, ⟨60, 4⟩]

/-- Table 1-5. -/
theorem test_bank_pairs :
    [-250, -60, -35, -1, 0, 30, 59, 60, 250].map (fun h => pairOf h table191) =
      [some ⟨1, 1, 0⟩, some ⟨1, 1, 0⟩, some ⟨1, 0, 106⟩, some ⟨1, 0, 251⟩, some ⟨0, 4, 0⟩, some ⟨0, 4, 128⟩,
        some ⟨0, 4, 251⟩, some ⟨4, 4, 0⟩, some ⟨4, 4, 0⟩] := by decide +kernel

/-- Table 1-6: FL's corners at f = 106; every v has d = −48, rounded toward minus infinity to −20. -/
theorem test_height_interpolation :
    heightInterp 8000 8240 106 = 8099 ∧ heightInterp 4430 4382 106 = 4410 ∧ heightInterp 84 112 106 = 96 ∧
      heightInterp 85 110 106 = 95 := by decide +kernel

/-- 1.9.2: pixel (235, 37) is local pixel (11, 5) of tile 23; its cell offsets are a = 3 and b = 5. -/
theorem test_blended_pixel_position :
    tileOf 235 37 = 23 ∧ cellMix 3 5 8099 8131 8105 8139 = 8115 ∧ cellMix 3 5 4410 4412 4470 4474 = 4449 ∧
      cellMix 3 5 96 98 95 96 = 96 := by decide +kernel

/-- Table 1-7, then the gains and the blend of 1.9.2. -/
theorem test_blended_pixel_value :
    samplePixel 3 1 ⟨120#8, 110#8, 140#8⟩ ⟨136#8, 114#8, 140#8⟩ ⟨124#8, 110#8, 140#8⟩ ⟨140#8, 114#8, 140#8⟩ =
      ⟨123#8, 111#8, 140#8⟩ ∧
    postGain 300 ⟨123#8, 111#8, 140#8⟩ = ⟨144#8, 111#8, 140#8⟩ ∧
    blendPixel 96 ⟨144#8, 111#8, 140#8⟩ ⟨150#8, 118#8, 136#8⟩ = ⟨146#8, 114#8, 139#8⟩ := by decide +kernel

/-- 1.9.3: the clamps and the saturated gain. -/
theorem test_clamp_and_saturation :
    clampTo 640 (10232 / 16 + 1) = 639 ∧ clampTo 480 (7700 / 16) = 479 ∧
      postGain 512 ⟨250#8, 100#8, 150#8⟩ = ⟨255#8, 100#8, 150#8⟩ := by decide +kernel

/-- Table 1-9: blended, one view, no view. -/
theorem test_seam_pixels :
    blendOutcome ⟨64#8, 128#8, 128#8⟩ 128 (some ⟨88#8, 120#8, 134#8⟩) (some ⟨96#8, 124#8, 130#8⟩) =
      ⟨⟨92#8, 122#8, 132#8⟩, some (88, 96)⟩ ∧
    blendOutcome ⟨64#8, 128#8, 128#8⟩ 128 (some ⟨88#8, 120#8, 134#8⟩) none = ⟨⟨88#8, 120#8, 134#8⟩, none⟩ ∧
    blendOutcome ⟨64#8, 128#8, 128#8⟩ 128 none none = ⟨⟨64#8, 128#8, 128#8⟩, none⟩ := by decide +kernel

/-- R22 and R158: a BLEND record of zone 3 names cameras 3 and 0. -/
theorem test_tile_records :
    tileRecordOf [2#8, 0#8, 3#8, 3#8] = some (.blend 0 3 3) ∧ tileRecordOf [2#8, 0#8, 2#8, 0#8] = none ∧
      tileRecordOf [1#8, 4#8, 0#8, 0#8] = none ∧ tileRecordOf [3#8, 9#8, 9#8, 9#8] = some .body := by decide +kernel

/-! ### Section 6: Table 6-3 and the worked case of 6.4 -/

theorem test_damped_gains :
    [271, 264, 263, 249, 241, 240, 1000, 60].map (dampedGain 256) = [257, 257, 256, 256, 255, 254, 349, 232] := by
  decide +kernel

/-- Tables 6-4 to 6-6. -/
theorem test_four_zones :
    let zs : Vector Zone 4 := #v[⟨5120000, 4400000, 40000⟩, ⟨3200000, 3425000, 30000⟩, ⟨3000000, 3141000, 25000⟩,
      ⟨3648000, 4096000, 32000⟩]
    cams4.map (fun c => updatedGain c zs (Vector.replicate 4 256) (Vector.replicate 4 300)) =
      [254, 257, 256, 256] := by decide +kernel

/-- Table 6-7: with zones 2 and 3 empty, RL keeps what is staged. -/
theorem test_open_door :
    let zs : Vector Zone 4 := #v[⟨5120000, 4400000, 40000⟩, ⟨3200000, 3425000, 30000⟩, ⟨0, 0, 0⟩, ⟨0, 0, 0⟩]
    cams4.map (fun c => updatedGain c zs (Vector.replicate 4 256) (Vector.replicate 4 300)) =
      [254, 257, 255, 300] := by decide +kernel

/-! ### Section 8: Table 8-3 -/

theorem test_burst_counts :
    [3840, 960, 3072, 256, 20, 5, 108721, 1018, 1179648].map (fun n => (Run.cut ⟨0, n⟩).length) =
      [15, 4, 12, 1, 1, 1, 425, 4, 4608] ∧ (Run.cut ⟨0, 108721⟩).getLast? = some ⟨108544, 177⟩ := by decide +kernel

/-- Reading gives what was written; writing back what an unlisted byte reads as removes the entry. -/
theorem test_memory_canonical :
    Memory.read (Memory.write [] 5 9#8) 5 = 9#8 ∧ Memory.write (Memory.write [] 5 9#8) 5 0#8 = [] ∧
      Memory.wf (Memory.write (Memory.write [] 7 1#8) 5 9#8) = true := by decide +kernel

/-! ### Commands, one step each -/

/-- RESET_INPUT_ASSERTED and PIN_RESET (R139). -/
theorem test_pin_reset :
    (after (exec .resetInputAsserted withBanks)).resetAsserted = true ∧
    (after (exec .pinReset (withBanks.setResetAsserted true))).resetAsserted = false ∧
    (after (exec .pinReset withBanks)).banks = Banks.default ∧
    (after (exec .pinReset withBanks)).memStart = .bringUp := by decide +kernel

/-- DRAM_IN_OPERATION (R128): the first body-fill burst writes (16, 128, 128) pixels. -/
theorem test_dram_in_operation :
    ((after (exec .dramInOperation State.reset)).arb.port.bind Burst.data).map (List.take 4) =
      some [16#8, 128#8, 128#8, 16#8] := by decide +kernel

/-- SELECT_WINDOW_START (R146). -/
theorem test_window_start :
    (after (exec .selectWindowStart (queued 1))).link.window = some ⟨some ⟨0x81#8, 1#8, [0#8]⟩⟩ := by decide +kernel

/-- SELECT_WINDOW_END (R147): the CAM_ON message of camera 1 with its CRC-16, and with a wrong one. -/
theorem test_window_end :
    let s := started.setLink { Link.default with window := some ⟨none⟩ }
    let bytes := [0xA5#8, 0x03#8, 0x00#8, 0x11#8, 0x07#8, 0x01#8]
    let check := le16 (crc16 [0x03#8, 0x00#8, 0x11#8, 0x07#8, 0x01#8]).toNat
    (after (exec (.selectWindowEnd (bytes ++ check)) s)).cams[1].state = .acquiring ∧
    (after (exec (.selectWindowEnd (bytes ++ check ++ [0#8])) s)).link.queue = [⟨0x91#8, 7#8, [0#8]⟩] ∧
    (after (exec (.selectWindowEnd (bytes ++ [0#8, 0#8])) s)).link.errors = 1#16 := by decide +kernel

/-- A KIND that is no request's (R150). -/
theorem test_unknown_kind :
    (after (exec (.unknownKind 0x7F#8 9#8 []) started)).link.queue = [⟨0xFF#8, 9#8, [3#8, 0x7F#8]⟩] := by
  decide +kernel

/-- IDENT: Table 9-3 in the layout of Table 11-5. -/
theorem test_ident :
    lastPayload (after (exec (.ident 0#8 []) started)) =
      [0x00#8, 0x60#8, 0x41#8, 0x01#8, 0x04#8, 0x04#8, 0x00#8, 0x05#8, 0xC0#8, 0x03#8, 0x08#8, 0x08#8, 0x80#8,
        0x01#8, 0x03#8, 0x08#8, 0x10#8, 0x00#8, 0x04#8, 0xFA#8, 0x03#8] := by decide +kernel

/-- STATUS clears the missed-notice flag it reports (R144). -/
theorem test_status :
    let s := started.setLink { Link.default with missed := true }
    (lastPayload (after (exec (.status 0#8 []) s))).getLast? = some 1#8 ∧
      (after (exec (.status 0#8 []) s)).link.missed = false := by decide +kernel

/-- SNAPSHOT: 264 bytes of data, camera 1's state at 12 + 63 (Table 11-6). -/
theorem test_snapshot :
    let p := lastPayload (after (exec (.snapshot 0#8 []) (withFR (camFR .live emptySlots) 5)))
    p.length = 265 ∧ byteAt p 1 = 5#8 ∧ byteAt p 76 = 2#8 := by decide +kernel

/-- HISTORY with no record. -/
theorem test_history : lastPayload (after (exec (.history 0#8 []) started)) = [0#8, 0#8] := by decide +kernel

/-- NOTICE_MASK: bit 6 is refused with RANGE (R154). -/
theorem test_notice_mask :
    lastPayload (after (exec (.noticeMask 0#8 [0x40#8]) started)) = [6#8] ∧
      (after (exec (.noticeMask 0#8 [0x02#8]) started)).link.mask = 0x02#6 := by decide +kernel

/-- RESET keeps READY banks and answers with STARTED alone (R141, R142): banks 0, 1, 2 and 4. -/
theorem test_reset :
    (after (exec (.reset 0#8 []) withBanks)).link.queue = [⟨0xE0#8, 0#8, [1#8, 0x17#8]⟩] ∧
      (after (exec (.reset 0#8 []) withBanks)).banks.dir[7] = .empty := by decide +kernel

/-- CAM_SETUP of 640 × 480 (R44), and of width 641. -/
theorem test_cam_setup :
    (after (exec (.camSetup 0#8 [3#8, 0x80#8, 0x02#8, 0xE0#8, 0x01#8, 2#8, 200#8, 0#8, 100#8]) started)).cams[3].setup =
      ⟨640, 480, 2, 200, 100⟩ ∧
    lastPayload (after (exec (.camSetup 0#8 [3#8, 0x81#8, 0x02#8, 0xE0#8, 0x01#8, 2#8, 200#8, 0#8, 100#8]) started)) =
      [6#8] := by decide +kernel

/-- CAM_ON (R45) and CAM_OFF with an IN_USE slot (R46). -/
theorem test_cam_on : (after (exec (.camOn 0#8 [1#8]) started)).cams[1].loss = some 200000 := by decide +kernel
theorem test_cam_off :
    let t := after (exec (.camOff 0#8 [1#8]) (withFR (camFR .live
      #v[.ready 0#16 0#32 5#32 960 false, .inUse 1#16 0#32 5#32 960, .empty, .filling 2#16 0#32 4]) 9))
    t.cams[1].discard = true ∧ t.cams[1].slots = #v[.empty, .inUse 1#16 0#32 5#32 960, .empty, .empty] := by
  decide +kernel

/-- OUT_SETUP: period 33,333 and offsets 0, 8,000, 16,000, 24,000 of 4.8 stay pending (R69). -/
def outSetup48 : List Byte :=
  [0x35#8, 0x82#8, 0#8, 0#8, 0#8, 0#8, 0#8, 0#8, 0x40#8, 0x1F#8, 0#8, 0#8, 0x80#8, 0x3E#8, 0#8, 0#8, 0xC0#8, 0x5D#8,
    0#8, 0#8, 16#8, 128#8, 128#8, 64#8, 128#8, 128#8, 10#8]
theorem test_out_setup :
    (after (exec (.outSetup 0#8 outSetup48) started)).timer.pendingTiming =
      some ⟨33333, #v[0, 8000, 16000, 24000]⟩ := by decide +kernel

/-- BANK_OPEN fills the bank (R25, R26); a listed bank is refused (Table 2-5, step 14). -/
theorem test_bank_open :
    (after (exec (.bankOpen 0#8 [3#8]) withBanks)).banks.dir[3] = .loading ∧
    lastPayload (after (exec (.bankOpen 0#8 [0#8])
      (withBanks.setStaged { Params.default with table := some table191 }))) = [7#8] := by decide +kernel

/-- BANK_WRITE past section 5's 1,536 bytes (R27), and of its last byte. -/
theorem test_bank_write :
    lastPayload (after (exec (.bankWrite 0#8 [7#8, 5#8, 0x00#8, 0x06#8, 1#8]) withBanks)) = [6#8] ∧
    (after (exec (.bankWrite 0#8 [7#8, 5#8, 0xFF#8, 0x05#8, 1#8]) withBanks)).arb.port.map Burst.data =
      some (some [1#8]) := by decide +kernel

/-- BANK_CLOSE (Table 2-5, step 6). -/
theorem test_bank_close :
    let t := after (exec (.bankClose 0#8 [7#8, 0xC3#8, 0xA9#8, 0xF0#8, 0x11#8]) withBanks)
    t.banks.dir[7] = .verifying 0x11F0A9C3#32 ∧ t.banks.queue = [7] ∧ lastPayload t = [1#8] := by decide +kernel

/-- BANK_READ of an EMPTY bank (R29). -/
theorem test_bank_read :
    lastPayload (after (exec (.bankRead 0#8 [3#8, 0#8, 0#8, 0#8, 1#8, 0#8]) withBanks)) = [7#8] := by decide +kernel

/-- BODY_WRITE is refused in RUN (R125). -/
theorem test_body_write :
    lastPayload (after (exec (.bodyWrite 0#8 [0#8, 0#8, 0#8, 0#8, 1#8]) (inTop .run))) = [5#8] := by decide +kernel

/-- HEIGHT_TABLE: rows of Table 2-6. -/
theorem test_height_table :
    [[1#8, 0#8, 0#8, 0#8], [2#8, 0xC4#8, 0xFF#8, 1#8, 0xC4#8, 0xFF#8, 0#8], [2#8, 0#8, 0#8, 0#8, 60#8, 0#8, 2#8],
      [2#8, 0xC4#8, 0xFF#8, 1#8, 0#8, 0#8, 6#8], [1#8, 0#8, 0#8, 9#8], [0#8], [1#8]].map
        (fun p => lastPayload (after (exec (.heightTable 0#8 p) withBanks))) =
      [[0#8], [8#8], [8#8], [8#8], [6#8], [6#8], [4#8]] := by decide +kernel

/-- HEIGHT −300 is clamped to −250 (2.10, R78). -/
theorem test_height :
    lastPayload (after (exec (.height 0#8 [0xD4#8, 0xFE#8]) started)) = [0#8, 0x06#8, 0xFF#8] := by decide +kernel

/-- DOORS, EXCLUDE and GAINS (R79 to R81). -/
theorem test_doors : (after (exec (.doors 0#8 [1#8, 0#8]) started)).staged.leftOpen = true := by decide +kernel
theorem test_exclude : lastPayload (after (exec (.exclude 0#8 [0x10#8]) started)) = [6#8] := by decide +kernel
theorem test_gains :
    (after (exec (.gains 0#8 [0x7F#8, 0#8, 0#8, 1#8, 1#8, 2#8, 0#8, 2#8, 1#8]) started)).staged.gains =
      #v[128, 256, 512, 512] := by decide +kernel

/-- START without a table (R135), SINGLE with one (R136), STOP in FROZEN (R137). -/
theorem test_start : lastPayload (after (exec (.start 0#8 []) started)) = [8#8] := by decide +kernel
theorem test_single :
    (after (exec (.single 0#8 []) (withBanks.setStaged { Params.default with table := some table191 }))).top =
      ⟨.shot, true, false⟩ := by decide +kernel
theorem test_stop : (after (exec (.stop 0#8 []) (inTop .frozen))).top.state = .idle := by decide +kernel

/-- FRAME_START: Table 3-8, step 12: slot 0 is evicted unused. -/
theorem test_frame_start :
    let t := after (exec (.frameStart 1) (withFR (camFR .live #v[.ready 0#16 1010000#32 1030000#32 960 false,
      .ready 1#16 1050000#32 1070000#32 960 true, .ready 2#16 1090000#32 1110000#32 960 false,
      .ready 3#16 1130000#32 1150000#32 960 false]) 1170000))
    t.cams[1].slots[0] = .filling 4#16 1170000#32 0 ∧ t.cams[1].skipped = 1#16 := by decide +kernel

/-- FRAME_START: Table 3-9, step 21: from LOST, #5 interrupted. -/
theorem test_frame_start_lost :
    let t := after (exec (.frameStart 1) (withFR (camFR .lost #v[.filling 5#16 1210000#32 9, .empty, .empty, .empty])
      1500000))
    t.cams[1].state = .acquiring ∧ t.cams[1].lastDamage = some .interrupted ∧
      t.cams[1].slots[0] = .filling 4#16 1500000#32 0 := by decide +kernel

/-- LINE: 4:2:2 to 4:4:4 (R52), and a line of a wrong length (R55). -/
theorem test_convert_line :
    convertLine [1#8, 2#8, 3#8, 4#8] = [2#8, 1#8, 3#8, 4#8, 1#8, 3#8] := by decide +kernel
theorem test_line :
    (after (exec (.line 1 [1#8, 2#8, 3#8, 4#8]) (withFR (camFR .live #v[.filling 4#16 9#32 0, .empty, .empty, .empty])
      10))).cams[1].mark = some .lineLength := by decide +kernel

/-- FRAME_END: Table 3-8, step 5: the second good frame makes FR LIVE. -/
theorem test_frame_end :
    let t := after (exec (.frameEnd 1) (withFR { camFR .acquiring #v[.ready 0#16 1010000#32 1030000#32 960 false,
      .filling 1#16 1050000#32 960, .empty, .empty] with good := 1 } 1070000))
    t.cams[1].state = .live ∧ t.cams[1].slots[1] = .ready 1#16 1050000#32 1070000#32 960 false ∧
      lastPayload t = [1#8, 2#8, 0xB0#8, 0x53#8, 0x10#8, 0#8] := by decide +kernel

/-- A LIVE camera whose loss timer has run down. -/
def runDown : Camera := { camFR .live emptySlots with loss := some 0 }

/-- LOSS_TIMER_EXPIRY: Table 3-9, step 19. -/
theorem test_loss_timer_expiry :
    let t := after (exec (.lossTimerExpiry 1) (withFR runDown 1410000))
    t.cams[1].state = .lost ∧ t.cams[1].loss = none := by decide +kernel

/-- R48: a frame start taken before the expiry of the same microsecond restarts the timer; no expiry happens. -/
theorem test_frame_start_before_expiry :
    let t := after (exec (.lossTimerExpiry 1) (after (exec (.frameStart 1) (withFR runDown 1410000))))
    t.cams[1].state = .live ∧ t.cams[1].loss = some 200000 := by decide +kernel

/-- Table 3-10, FL's two rows at the stale limit, and FR's row. -/
theorem test_selection_answers :
    let c := fun e : Nat => camFR .live #v[.ready 7#16 0#32 (BitVec.ofNat 32 e) 960 false, .empty, .empty, .empty]
    (c 1899999).answer 0 Params.default 2000000#32 = .unavailable .stale ∧
    (c 1900000).answer 0 Params.default 2000000#32 = .available ⟨0, 7#16, 100000#32, 1280, 960⟩ ∧
    (c 1990000).answer 1 { Params.default with exclude := 2#4 } 2000000#32 = .unavailable .excluded := by
  decide +kernel

/-- The started part with a staged and active table, composing: tile index 0 in output slot 0. -/
def composing : State :=
  ((((withBanks.setStaged { Params.default with table := some table191 }).setActive
    { Params.default with table := some table191 }).setTop ⟨.run, false, false⟩).setComp
      { Composer.default with state := .issuing, slot := some 0, mapRuns := [⟨0, List.replicate 256 0#8⟩] }).setOut
        { Output.default with slots := #v[.composing 1#16, .free, .free] }

/-- CADENCE_MARK in RUN: the first composition (R84), and a missed mark (R71). -/
theorem test_cadence_mark :
    let t := after (exec .cadenceMark (composing.setComp Composer.default))
    t.comp.state = .issuing ∧ t.comp.seq = 1#16 ∧
      (after (exec .cadenceMark composing)).comp.late = 1#16 := by decide +kernel

/-- SELECTION_EVENT of an armed point. -/
theorem test_selection_event :
    (after (exec (.selectionEvent 2) (composing.setTimer
      { Timer.default with armed := #v[false, false, true, false] }))).comp.selection[2] = .unavailable .off := by
  decide +kernel

/-- TILE_DECISION of a VOID tile: FRESH (R90). -/
theorem test_tile_decision :
    (after (exec .tileDecision composing)).comp.fresh = 1 ∧
      (after (exec .tileDecision composing)).comp.index = 1 := by decide +kernel

/-- SAMPLE_ARITHMETIC_DONE of a SINGLE tile whose camera has no view anywhere: void pixels (R15). -/
def sampling : State :=
  composing.setComp { composing.comp with
    sample := some ⟨⟨0, .single 1, .fresh, 0, ⟨1, 1, 0⟩, [⟨1, ⟨0, 0#16, 0#32, 1280, 960⟩⟩]⟩,
      List.replicate 100 0xFF#8, [], [], none⟩ }
theorem test_sample_arithmetic_done :
    ((after (exec .sampleArithmeticDone sampling)).comp.store.map fun st => (st.pixels.length, st.pixels.take 3)) =
      some (3072, [64#8, 128#8, 128#8]) := by decide +kernel

/-- BURST_COMPLETE of a job's only burst frees the slot and queues the reply (R27). -/
def writing : State :=
  (withBanks.setSlot (some ⟨0x21#8, 5#8, .bankWrite 7 5 0 [3#8], 0, []⟩)).setArb
    { Arbiter.default with port := some ⟨.job, 63389576, 1, some [3#8], true⟩ }
theorem test_burst_complete :
    (after (exec .burstComplete writing)).link.queue = [⟨0xA1#8, 5#8, [0#8]⟩] ∧
      Memory.read (after (exec .burstComplete writing)).mem 63389576 = 3#8 := by decide +kernel

/-- The started part in a period whose source is output slot 1, with the places given. -/
def scanning (places : List LinePlace) : State :=
  started.setOut { Output.default with
    slots := #v[.free, .scanning 9#16, .free], source := some 1, places := places, nextLine := 2 }

/-- LINE_TIME_END frees the line's place and fetches the next line (R120). -/
theorem test_line_time_end :
    ((after (exec .lineTimeEnd (scanning [⟨0, List.replicate 1536 0#8, false⟩, ⟨1, List.replicate 1536 0#8, false⟩]))).out.places.map
      LinePlace.line) = [1, 2] := by decide +kernel

/-- LINE_UNDERRUN counts and notes it once a period (R121, R122). -/
theorem test_line_underrun :
    let t := after (exec .lineUnderrun (scanning [⟨0, [], false⟩]))
    t.out.underruns = 1#16 ∧ lastPayload t = [0#8, 0#8, 0#8, 0#8, 0#8, 0#8, 9#8, 0#8, 1#8, 0#8] := by decide +kernel

/-- The port in a fill picture of the default period, L = 41 µs (R120): nothing in the first line time, pixels 0 to 12
of line 0 at 41 µs, nothing from 31,529 µs on. -/
def atCounter (n : Nat) : State := started.setTimer { Timer.default with counter := n }
theorem test_display_port :
    (atCounter 40).displayPort = [] ∧ (atCounter 41).displayPort = List.replicate 13 ⟨16#8, 128#8, 128#8⟩ ∧
      (atCounter 31528).displayPort.length = 12 ∧ (atCounter 31529).displayPort = [] := by decide +kernel

/-- An empty queue lets one microsecond pass (log 1). -/
theorem test_tick : (after (step started)).timer.timebase = 1#32 ∧ (after (step started)).timer.counter = 1 := by
  decide +kernel

/-! ### Witnesses: states and operands that meet the hypotheses of each statement, clause by clause -/

theorem started_accepts : started.Accepts := ⟨rfl, rfl, rfl, by decide +kernel⟩
theorem withBanks_accepts : withBanks.Accepts := ⟨rfl, rfl, rfl, by decide +kernel⟩
theorem inTop_accepts (t : TopState) : (inTop t).Accepts := ⟨rfl, rfl, rfl, by cases t <;> decide +kernel⟩

theorem witness_StepRunsTheFrontCommand :
    (started.setPending [.pinReset, .cadenceMark]).pending = .pinReset :: [.cadenceMark] := rfl

/-- The part, and in it the microseconds at which line 0 ends and at which its first pixel has not arrived. -/
theorem witness_EmptyQueueStepPassesOneMicrosecond :
    started.pending = [] ∧ started.Takes ∧ 0 < started.timer.timing.period / 800 ∧
      (scanning [⟨0, [], false⟩]).pending = [] ∧ (scanning [⟨0, [], false⟩]).out.source ≠ none ∧
      81 + 1 = (0 + 2) * (33333 / 800) ∧ (0 + 1) * (33333 / 800) + 0 * (33333 / 800) / 512 ≤ 40 + 1 := by decide +kernel

theorem witness_NothingIsTakenWhileResetIsAsserted :
    (started.setResetAsserted true).resetAsserted = true ∧ Instr.frameStart 0 ≠ .pinReset ∧
      Instr.frameStart 0 ≠ .resetInputAsserted ∧ Instr.frameStart 0 ≠ .burstComplete ∧
      (started.setResetAsserted true).arb.port = none ∧
      (writing.setResetAsserted true).arb.port = some ⟨.job, 63389576, 1, some [3#8], true⟩ ∧
      (started.setResetAsserted true).pending = [] := by decide +kernel

/-- 12 and 13 held replies before STARTED; occupancy 16 and 15; the slot occupied; an unknown KIND. -/
theorem witness_EveryRequestPassesTheGateOfTheLink :
    (Instr.ident 1#8 []).request? = some (0x01#8, 1#8, []) ∧
    (((queued 12).setMemStart .bringUp).Takes ∧ ((queued 12).setMemStart .bringUp).link.queue.length < 13) ∧
    (((queued 13).setMemStart .bringUp).Takes ∧ 13 ≤ ((queued 13).setMemStart .bringUp).link.queue.length) ∧
    ((queued 16).Takes ∧ (queued 16).memStart = .complete ∧ 16 ≤ (queued 16).occupancy) ∧
    (writing.Takes ∧ writing.memStart = .complete ∧ writing.occupancy < 16 ∧ writing.slot.isSome = true) ∧
    ((queued 15).occupancy < 16 ∧ (queued 15).slot = none ∧
      (Instr.unknownKind 0x7F#8 1#8 []).request? = some (0x7F#8, 1#8, []) ∧ 0x7F#8 ∉ requestKinds) := by
  decide +kernel

theorem witness_WrongSizeIsRefusedWithLength :
    (Instr.camSetup 1#8 [0#8]).request? = some (0x10#8, 1#8, [0#8]) ∧ 0x10#8 ∈ requestKinds ∧
      sizeRight 0x10#8 [0#8] = false ∧ started.Accepts :=
  ⟨rfl, by decide +kernel, by decide +kernel, started_accepts⟩

/-- The started part in a select window that sends its head message. -/
def inWindow (n : Nat) (m : Option Message) : State :=
  (queued n).setLink { (queued n).link with window := some ⟨m⟩ }

theorem witness_RequestMessageIsTakenFromItsWindow :
    (Instr.doors 1#8 [1#8, 0#8]).request? = some (0x32#8, 1#8, [1#8, 0#8]) ∧
      (Instr.doors 1#8 [1#8, 0#8]).wf = true ∧ (inWindow 0 none).Takes ∧
      (inWindow 0 none).link.window = some ⟨none⟩ := by decide +kernel

/-- No byte, no message, a bad sync, a cut LENGTH, LENGTH 1 and 1,027, a short message, a bad CHECK. -/
theorem witness_BadMessageIsOneLinkError :
    (inWindow 0 none).Takes ∧ (inWindow 0 none).link.window = some ⟨none⟩ ∧
    ([] : List Byte).head? = none ∧ ([0#8] : List Byte).head? = some 0#8 ∧
    ([0xFF#8] : List Byte).head? = some 0xFF#8 ∧ ([0xA5#8, 2#8] : List Byte).length < 3 ∧
    ofLe (slice [0xA5#8, 1#8, 0#8] 1 2) < 2 ∧ 1026 < ofLe (slice [0xA5#8, 3#8, 4#8] 1 2) ∧
    ([0xA5#8, 2#8, 0#8, 1#8, 1#8, 0#8] : List Byte).length < ofLe (slice [0xA5#8, 2#8, 0#8, 1#8, 1#8, 0#8] 1 2) + 5 ∧
    (crc16 (slice [0xA5#8, 2#8, 0#8, 1#8, 1#8, 0#8, 0#8] 1 4)).toNat ≠
      ofLe (slice [0xA5#8, 2#8, 0#8, 1#8, 1#8, 0#8, 0#8] 5 2) := by decide +kernel

/-- One message; none; held by the memory start. -/
theorem witness_WindowStartFixesTheHeadMessage :
    (queued 1).Takes ∧ (queued 1).link.window = none ∧ (queued 1).memStart = .complete ∧
      (queued 1).link.queue = ⟨0x81#8, 1#8, [0#8]⟩ :: [] ∧ started.link.window = none ∧ started.link.queue = [] ∧
      State.reset.memStart ≠ .complete := by decide +kernel

/-- The message of 8 bytes in windows of 8 and of 7 zero bytes, and a window that sent zeros. -/
theorem witness_WindowEndRemovesTheMessageReadWhole :
    let m : Message := ⟨0x81#8, 1#8, [0#8]⟩
    (inWindow 2 (some m)).Takes ∧ (List.replicate 8 0#8 : List Byte).head? = some 0#8 ∧
      (inWindow 2 (some m)).link.window = some ⟨some m⟩ ∧ (inWindow 2 (some m)).link.queue = m :: [m] ∧
      m.payload.length + 7 ≤ (List.replicate 8 (0#8 : Byte)).length ∧
      ¬ m.payload.length + 7 ≤ (List.replicate 7 (0#8 : Byte)).length ∧
      (inWindow 2 none).link.window = some ⟨none⟩ := by decide +kernel

theorem witness_IdentReportsTheCapacities : started.Accepts := started_accepts

/-- With a bank pair and without one. -/
theorem witness_StatusReportsAndClearsTheMissedFlag :
    started.Accepts ∧ started.active.pair = none ∧
      (started.setActive { Params.default with table := some table191 }).active.pair = some ⟨0, 4, 0⟩ :=
  ⟨started_accepts, by decide +kernel, by decide +kernel⟩

theorem witness_SnapshotReportsOneState : (withFR (camFR .live emptySlots) 5).Accepts :=
  ⟨rfl, rfl, rfl, by decide +kernel⟩

def oneRecord : FrameRecord :=
  ⟨1#16, 5#32, .published, 384, Vector.replicate 4 (.unavailable .off), Vector.replicate 4 256, 0, ⟨0, 4, 0⟩, 384, 0, 0⟩

theorem witness_HistoryReportsTheRecordsNewestFirst :
    (started.setComp { Composer.default with history := [oneRecord] }).Accepts ∧
      (started.setComp { Composer.default with history := [oneRecord] }).comp.history[0]? = some oneRecord :=
  ⟨⟨rfl, rfl, rfl, by decide +kernel⟩, rfl⟩

theorem witness_NoticeMaskDecidesWhichNoticesAreQueued :
    started.Accepts ∧ (63#8 : Byte).toNat ≤ 63 ∧ 63 < (64#8 : Byte).toNat ∧
      (started.setLink { Link.default with mask := 0#6 }).link.mask.getLsbD NoticeKind.camera.bit = false ∧
      ((queued 14).link.mask.getLsbD NoticeKind.camera.bit = true ∧ 14 ≤ (queued 14).link.queue.length) ∧
      (queued 13).link.queue.length < 14 :=
  ⟨started_accepts, by decide +kernel⟩

theorem witness_HeightDoorsAndExcludeAreStaged : started.Accepts := started_accepts

theorem witness_GainsStagesClampedGains : started.Accepts ∧ 1 < (2#8 : Byte).toNat ∧ (1#8 : Byte).toNat ≤ 1 :=
  ⟨started_accepts, by decide +kernel⟩

/-- RUN; IDLE with a period of 16,666; IDLE with the timing of 4.8. -/
theorem witness_OutSetupWaitsForTheNextMark :
    (inTop .run).Accepts ∧ (inTop .run).top.state ≠ .idle ∧ started.Accepts ∧ started.top.state = .idle ∧
      outSetup48.length = 27 ∧ ofLe (slice ([0x1A#8, 0x41#8, 0#8, 0#8] ++ outSetup48.drop 4) 0 4) = 16666 ∧
      ofLe (slice outSetup48 0 4) = 33333 ∧ ofLe (slice outSetup48 16 4) = 24000 ∧ (byteAt outSetup48 26).toNat = 10 :=
  ⟨inTop_accepts _, by decide +kernel, started_accepts, by decide +kernel⟩

/-- Sizes that do not fit; counts 0 and 9; key 251; bank 8. -/
theorem witness_HeightTableFormIsCheckedFirst :
    started.Accepts ∧ ([1#8] : List Byte).length ≠ 1 + 3 * (byteAt [1#8] 0).toNat ∧
      ([0#8] : List Byte).length = 1 + 3 * (byteAt [0#8] 0).toNat ∧
      (9#8 :: List.replicate 27 (0#8 : Byte)).length = 1 + 3 * (byteAt (9#8 :: List.replicate 27 0#8) 0).toNat ∧
      250 < (BitVec.ofNat 16 (ofLe (slice [1#8, 0xFB#8, 0#8, 0#8] (1 + 3 * 0) 2))).toInt ∧
      7 < (byteAt [1#8, 0#8, 0#8, 8#8] (3 + 3 * 0)).toNat :=
  ⟨started_accepts, by decide +kernel⟩

/-- The three-entry table of 2.9, and a table with an EMPTY bank. -/
theorem witness_HeightTableIsStagedExactlyWhenValid :
    withBanks.Accepts ∧ (∀ e ∈ table191, -250 ≤ e.key ∧ e.key ≤ 250) ∧
      ((table191.map TableEntry.key).Pairwise (· < ·) ∧ (table191.map TableEntry.bank).Nodup ∧
        ∃ d, ∀ e ∈ table191, withBanks.banks.dir[e.bank] = .ready d) ∧
      ¬ ∃ d, ∀ e ∈ ([⟨250, 3⟩] : List TableEntry), withBanks.banks.dir[e.bank] = .ready d := by
  refine ⟨withBanks_accepts, by decide +kernel, ⟨by decide +kernel, by decide +kernel, 0x3A91C07E#32, by decide +kernel⟩, ?_⟩
  rintro ⟨d, h⟩
  exact absurd ((show withBanks.banks.dir[(3 : Fin 8)] = .empty by decide +kernel).symm.trans (h ⟨250, 3⟩ (by simp)))
    (by simp)

/-- Camera 4; a LIVE camera; an OFF camera with width 641 and with 640 × 480. -/
theorem witness_CamSetupReplacesTheRecordOfAnOffCamera :
    started.Accepts ∧ 3 < (4#8 : Byte).toNat ∧ (1#8 : Byte).toNat = (1 : Fin 4).val ∧
      (withFR (camFR .live emptySlots) 0).Accepts ∧ (withFR (camFR .live emptySlots) 0).cams[1].state ≠ .off ∧
      started.cams[1].state = .off ∧ (0x81#8 : Byte).toNat + 256 * (2#8 : Byte).toNat = 641 ∧
      (0x80#8 : Byte).toNat + 256 * (2#8 : Byte).toNat = 640 :=
  ⟨started_accepts, by decide +kernel, by decide +kernel, ⟨rfl, rfl, rfl, by decide +kernel⟩, by decide +kernel⟩

theorem witness_CamOnAndCamOffKeepOnlyTheSlotInUse :
    started.Accepts ∧ 3 < (4#8 : Byte).toNat ∧ (1#8 : Byte).toNat = (1 : Fin 4).val ∧
      (withFR (camFR .live emptySlots) 0).Accepts ∧ (withFR (camFR .live emptySlots) 0).cams[1].state ≠ .off ∧
      started.cams[1].state = .off :=
  ⟨started_accepts, by decide +kernel, by decide +kernel, ⟨rfl, rfl, rfl, by decide +kernel⟩, by decide +kernel⟩

/-- Bank 8; a VERIFYING bank; a listed bank; a free one. -/
theorem witness_BankOpenStartsAFill :
    withBanks.Accepts ∧ 7 < (8#8 : Byte).toNat ∧ (7#8 : Byte).toNat = (7 : Fin 8).val ∧
      (withBanks.setBanks { Banks.default with dir := banks210.set 7 (.verifying 1#32) }).banks.dir[7] = .verifying 1#32 ∧
      (∃ es, (withBanks.setStaged { Params.default with table := some table191 }).staged.table = some es ∧
        ∃ e ∈ es, e.bank = 0) ∧
      withBanks.banks.dir[7] = .loading ∧ withBanks.staged.table = none ∧ withBanks.active.table = none :=
  ⟨withBanks_accepts, by decide +kernel, by decide +kernel, by decide +kernel, ⟨table191, rfl, by decide +kernel⟩,
    by decide +kernel⟩

/-- Bank 7 is LOADING, bank 3 EMPTY, bank 6 FAULTY, bank 0 READY; section 5 has 1,536 bytes. -/
theorem witness_BankWriteAndReadTakeTheRequestSlot :
    withBanks.Accepts ∧ 7 < (8#8 : Byte).toNat ∧ (7#8 : Byte).toNat = (7 : Fin 8).val ∧
      (5#8 : Byte).toNat = (5 : Fin 6).val ∧ sectionSize 5 < 1536 + 1 ∧ 518 + 1018 ≤ sectionSize 5 ∧
      withBanks.banks.dir[7] = .loading ∧ withBanks.banks.dir[3] = .empty ∧ withBanks.banks.dir[6] = .faulty ∧
      withBanks.banks.dir[0] = .ready 0x3A91C07E#32 :=
  ⟨withBanks_accepts, by decide +kernel⟩

theorem witness_BankCloseQueuesTheVerification :
    withBanks.Accepts ∧ 7 < (8#8 : Byte).toNat ∧ (7#8 : Byte).toNat = (7 : Fin 8).val ∧
      withBanks.banks.dir[7] = .loading ∧ withBanks.banks.dir[3] ≠ .loading :=
  ⟨withBanks_accepts, by decide +kernel⟩

/-- RUN; tile 384; data to the last byte of tile 383. -/
theorem witness_BodyWriteTakesTheRequestSlot :
    (inTop .run).Accepts ∧ (inTop .run).top.state = .run ∧ (inTop .frozen).Accepts ∧
      (inTop .frozen).top.state = .frozen ∧ 383 < (0x80#8 : Byte).toNat + 256 * (1#8 : Byte).toNat ∧
      (0x7F#8 : Byte).toNat + 256 * (1#8 : Byte).toNat = (383 : Fin 384).val ∧ 2054 + 1018 ≤ 3072 :=
  ⟨inTop_accepts _, by decide +kernel, inTop_accepts _, by decide +kernel⟩

theorem witness_LastJobBurstQueuesTheOwedReply :
    let j : Job := ⟨0x21#8, 5#8, .bankWrite 7 5 0 [3#8], 0, []⟩
    let b : Burst := ⟨.job, 63389576, 1, some [3#8], true⟩
    writing.Takes ∧ writing.memStart = .complete ∧ writing.slot = some j ∧ writing.arb.port = some b ∧
      b.client = .job ∧ b.wanted = true ∧ j.work.run.len ≤ j.moved + b.len ∧
      ({ j with work := .bankWrite 7 5 0 [3#8, 4#8] } : Job).work.run.len = j.moved + b.len + 1 := by decide +kernel

/-- The engine with all bytes of bank 0 read but the last 256, all of them 0, and its check value. -/
def verifying (check : Word) : State :=
  (started.setBanks ⟨Banks.default.dir.set 0 (.verifying check), [0], some ⟨0, List.replicate 108465 0#8⟩⟩).setArb
    { Arbiter.default with port := some ⟨.verify, 0, 256, none, true⟩ }

/-- The hypotheses hold for every check value, so for the bank's CRC-32 (READY: its points are (0, 0) and its tiles
VOID) and for its complement (FAULTY). -/
theorem witness_VerificationEndsReadyOrFaulty (check : Word) :
    (verifying check).Takes ∧ (verifying check).memStart = .complete ∧
      (verifying check).arb.port = some ⟨.verify, 0, 256, none, true⟩ ∧
      (verifying check).banks.engine = some ⟨0, List.replicate 108465 0#8⟩ ∧ (verifying check).banks.queue = 0 :: [] ∧
      (verifying check).banks.dir[(0 : Fin 8)] = .verifying check ∧
      (List.replicate 108465 (0#8 : Byte)).length + 256 = 108721 :=
  ⟨rfl, rfl, rfl, rfl, rfl, rfl, by rw [List.length_replicate]⟩

theorem witness_VerificationEndsReadyOrFaulty_passes :
    List.replicate 108465 (0#8 : Byte) ++ Memory.readRun (verifying 0#32).mem 0 256 = List.replicate 108721 0#8 ∧
      (∀ k < 25220, ofLe (slice (List.replicate 108721 (0#8 : Byte)) (4 * k) 2) ≤ 20464 ∧
        ofLe (slice (List.replicate 108721 (0#8 : Byte)) (4 * k + 2) 2) ≤ 15344) ∧
      (∀ t < 384, (tileRecordOf (slice (List.replicate 108721 (0#8 : Byte)) (107185 + 4 * t) 4)).isSome = true) := by
  have hs : ∀ i n, i + n ≤ 108721 → slice (List.replicate 108721 (0#8 : Byte)) i n = List.replicate n 0#8 := by
    intro i n h
    rw [slice, List.drop_replicate, List.take_replicate, Nat.min_eq_left (by omega)]
  refine ⟨?_, ?_, ?_⟩
  · have : Memory.readRun (verifying 0#32).mem 0 256 = List.replicate 256 0#8 := by
      change Memory.readRun [] 0 256 = List.replicate 256 0#8
      decide +kernel
    rw [this, List.replicate_append_replicate]
  · intro k hk
    rw [hs _ _ (by omega), hs _ _ (by omega)]
    decide +kernel
  · intro t ht
    rw [hs _ _ (by omega)]
    decide +kernel

/-- RUN, SHOT, IDLE without a table, IDLE with one. -/
theorem witness_StartAndSingleLeaveIdleOrFrozen :
    (inTop .run).Accepts ∧ (inTop .run).top.state = .run ∧ (inTop .shot).Accepts ∧ (inTop .shot).top.state = .shot ∧
      started.Accepts ∧ started.top.state = .idle ∧ started.staged.table = none ∧ started.active.table = none ∧
      (withBanks.setStaged { Params.default with table := some table191 }).staged.table ≠ none :=
  ⟨inTop_accepts _, by decide +kernel, inTop_accepts _, by decide +kernel, started_accepts, by decide +kernel⟩

/-- A composition with tile 0 in STORE. -/
def storing : State := composing.setComp { composing.comp with
  store := some ⟨⟨0, .void, .fresh, 0, ⟨0, 4, 0⟩, []⟩, List.replicate 3072 0#8, 0⟩ }

/-- IDLE; FROZEN with the composer IDLE; a composition with a tile in flight. -/
theorem witness_StopEndsOrAbandonsTheComposition :
    started.Accepts ∧ started.top.state = .idle ∧ (inTop .frozen).Accepts ∧ (inTop .frozen).top.state ≠ .idle ∧
      (inTop .frozen).comp.state = .idle ∧ storing.Accepts ∧ storing.top.state ≠ .idle ∧ storing.comp.state ≠ .idle ∧
      storing.comp.state ≠ .abandoning ∧ storing.comp.empty = false :=
  ⟨started_accepts, by decide +kernel, inTop_accepts _, by decide +kernel, by decide +kernel,
    ⟨rfl, rfl, rfl, by decide +kernel⟩, by decide +kernel⟩

/-- The last STORE burst of tile 383 in DRAINING, in RUN. -/
def lastStore : State :=
  (composing.setComp { composing.comp with
    state := .draining, index := 384, seq := 1#16, fresh := 384,
    store := some ⟨⟨383, .void, .fresh, 0, ⟨0, 4, 0⟩, []⟩, List.replicate 3072 0#8, 2816⟩ }).setArb
      { Arbiter.default with port := some ⟨.store, 60158976, 256, some (List.replicate 256 0#8), true⟩ }

/-- The same burst in an abandon whose STOP of TAG 7 is owed its reply. -/
def lastAbandoned : State :=
  ((lastStore.setComp { lastStore.comp with state := .abandoning }).setTop Top.default).setStopOwed (some 7#8)

/-- No tile in flight at the STOP; the last STORE burst of an abandon. -/
theorem witness_AbandonWithoutTilesEndsAtTheStop :
    (composing.Accepts ∧ composing.top.state ≠ .idle ∧ composing.comp.state ≠ .idle ∧
      composing.comp.state ≠ .abandoning ∧ composing.comp.empty = true ∧ composing.comp.slot = some 0) ∧
    lastAbandoned.Takes ∧ lastAbandoned.memStart = .complete ∧ lastAbandoned.comp.slot = some 0 ∧
      lastAbandoned.arb.port = some ⟨.store, 60158976, 256, some (List.replicate 256 0#8), true⟩ ∧
      lastAbandoned.comp.state = .abandoning ∧ lastAbandoned.comp.fetch = none ∧ lastAbandoned.comp.sample = none ∧
      (lastAbandoned.comp.store.map StoreStage.written) = some 2816 ∧ 3072 ≤ 2816 + 256 ∧
      lastAbandoned.stopOwed = some 7#8 :=
  ⟨⟨⟨rfl, rfl, rfl, by decide +kernel⟩, by decide +kernel⟩, by decide +kernel⟩

/-- The ring of Table 3-8 at step 17, and one with a FILLING slot. -/
def fullRing : Vector RingSlot 4 :=
  #v[.ready 0#16 1010000#32 1030000#32 960 false, .ready 1#16 1050000#32 1070000#32 960 true,
    .ready 2#16 1090000#32 1110000#32 960 false, .inUse 3#16 1130000#32 1150000#32 960]
def fillingRing (lines : Nat) : Vector RingSlot 4 :=
  #v[.ready 0#16 1010000#32 1030000#32 960 false, .filling 4#16 1170000#32 lines, .empty, .empty]

theorem fillingRing_law (st : CamState) (lines : Nat) : (camFR st (fillingRing lines)).RingLaw := by
  constructor <;> intro i j <;> fin_cases i <;> fin_cases j <;> simp [camFR, fillingRing, RingSlot.isFilling, RingSlot.isInUse]

theorem witness_FrameStartOpensOneSlot :
    started.Takes ∧ started.cams[1].state = .off ∧ (camFR .live fullRing).state ≠ .off ∧
      (camFR .live fullRing).RingLaw ∧ (camFR .lost (fillingRing 9)).state ≠ .off ∧
      (camFR .lost (fillingRing 9)).RingLaw :=
  ⟨rfl, rfl, by decide +kernel, ⟨by decide +kernel, by decide +kernel⟩, by decide +kernel, fillingRing_law _ _⟩

/-- OFF; no FILLING slot; 960 lines received; another length; the FIFO full; a line that passes. -/
theorem witness_LineIsCheckedAndConverted :
    started.Takes ∧ started.cams[1].state = .off ∧ (∀ j : Fin 4, (camFR .live fullRing).slots[j].isFilling = false) ∧
      (camFR .live (fillingRing 960)).RingLaw ∧ (camFR .live (fillingRing 960)).slots[1] = .filling 4#16 1170000#32 960 ∧
      (camFR .live (fillingRing 960)).setup.height = 960 ∧ (camFR .live (fillingRing 959)).mark = none ∧
      ([1#8, 2#8] : List Byte).length / 2 ≠ (camFR .live (fillingRing 959)).setup.width ∧
      (List.replicate 2560 (0#8 : Byte)).length / 2 = (camFR .live (fillingRing 959)).setup.width ∧
      (camFR .live (fillingRing 959)).fifo.length < 2 ∧
      2 ≤ ({ camFR .live (fillingRing 959) with fifo := [⟨1, 957, [], 0⟩, ⟨1, 958, [], 0⟩] } : Camera).fifo.length ∧
      ([1#8, 2#8, 3#8, 4#8] : List Byte).length = 4 * 1 :=
  ⟨rfl, rfl, by decide +kernel, fillingRing_law _ _, by decide +kernel⟩

theorem witness_FrameEndClosesTheFrame :
    started.Takes ∧ started.cams[1].state = .off ∧ (camFR .acquiring (fillingRing 960)).state ≠ .off ∧
      (camFR .acquiring (fillingRing 960)).RingLaw ∧
      (camFR .acquiring (fillingRing 960)).slots[1] = .filling 4#16 1170000#32 960 ∧
      (camFR .acquiring (fillingRing 960)).mark = none ∧ (camFR .acquiring (fillingRing 960)).setup.height = 960 ∧
      (camFR .acquiring (fillingRing 959)).slots[1] = .filling 4#16 1170000#32 959 :=
  ⟨rfl, rfl, by decide +kernel, fillingRing_law _ _, by decide +kernel⟩

theorem witness_LossTimerExpiryMakesTheCameraLost :
    (withFR runDown 0).Takes ∧ (withFR runDown 0).cams[1].loss = some 0 ∧ (withFR runDown 0).cams[1].state = .live ∧
      started.cams[1].loss ≠ some 0 ∧ (withFR (camFR .live emptySlots) 0).cams[1].loss = some 200000 ∧
      (withFR runDown 0).cams[1].RingLaw ∧ 0 < (withFR runDown 0).cams[1].setup.lossMs :=
  ⟨rfl, rfl, rfl, by decide +kernel, rfl, ⟨by decide +kernel, by decide +kernel⟩, by decide +kernel⟩

/-- No candidate in a camera of each state; a candidate among three READY slots. -/
theorem witness_SelectionAppliesTheTestsInOrder :
    (∀ st, (camFR st emptySlots).state = st) ∧ (1#4 : BitVec 4).getLsbD (0 : Fin 4).val = true ∧
    (0#4 : BitVec 4).getLsbD (3 : Fin 4).val = false ∧ { Params.default with leftOpen := true }.leftOpen = true ∧
    (camFR .live fullRing).slots[2] = .ready 2#16 1090000#32 1110000#32 960 false ∧
      ∀ (j : Fin 4) (e : Word), (camFR .live fullRing).slots[j].readyEnd? = some e →
        1275000#32 - 1110000#32 < 1275000#32 - e ∨ (1275000#32 - 1110000#32 = 1275000#32 - e ∧ j ≤ 2) := by
  refine ⟨fun _ => rfl, by decide +kernel, by decide +kernel, rfl, by decide +kernel, fun j e h => ?_⟩
  fin_cases j <;> cases h <;> decide +kernel

theorem witness_SelectionEventRecordsTheAnswer :
    composing.Takes ∧ composing.timer.armed[2] = false ∧
      (composing.setTimer { Timer.default with armed := #v[false, false, true, false] }).timer.armed[2] = true := by
  decide +kernel

/-- The part in RUN with the composer IDLE and a table staged; and in SHOT with a shot pending. -/
def waitingForMark : State := composing.setComp Composer.default |>.setOut Output.default

theorem witness_MarkStartsAComposition :
    waitingForMark.Takes ∧ waitingForMark.top.state = .run ∧ waitingForMark.comp.state = .idle ∧
      (∀ i : Fin 4, waitingForMark.comp.selection[i] = .pending) ∧
      (waitingForMark.out.rotate waitingForMark.top.state).slots[0] = .free ∧ waitingForMark.staged.table ≠ none ∧
      (waitingForMark.setTop ⟨.shot, true, false⟩).top.state = .shot ∧
      (waitingForMark.setTop ⟨.shot, true, false⟩).top.shotPending = true := by decide +kernel

theorem witness_MarkThatStartsNothingIsMissedOrPasses :
    composing.Takes ∧ composing.top.state = .run ∧ composing.comp.state ≠ .idle ∧
      ¬ (started.top.state = .run ∨ (started.top.state = .shot ∧ started.top.shotPending = true)) := by decide +kernel

theorem witness_RotationMovesPublishedToScanning :
    let o : Output := { Output.default with slots := #v[.published 2#16, .scanning 1#16, .composing 3#16] }
    o.slots[0] = .published 2#16 ∧ o.slots[1] = .scanning 1#16 ∧ o.slots[2] = .composing 3#16 ∧
      Output.default.slots[0] = .free := by decide +kernel

/-- Tile 0 is VOID; then SINGLE of camera 1, PENDING and unavailable; then FETCH has bursts left. -/
def composingSingle (sel : Selection) : State := composing.setComp { composing.comp with
  mapRuns := [⟨0, 1#8 :: 1#8 :: List.replicate 254 0#8⟩], selection := #v[.pending, sel, .pending, .pending] }

/-- The stages of a tile on its way: reading, read, its pixels known, being stored. -/
def onTheWay : Tile := ⟨0, .void, .fresh, 0, ⟨0, 4, 0⟩, []⟩
def fetching : FetchStage := ⟨onTheWay, [⟨0, 20⟩], []⟩
def fetched : FetchStage := ⟨onTheWay, [], [9#8]⟩
def sampled : SampleStage := ⟨onTheWay, [], [], [], none⟩
def stored : StoreStage := ⟨onTheWay, List.replicate 3072 0#8, 0⟩

/-- VOID goes to STORE, waits in SAMPLE and waits in FETCH, BODY is read by FETCH, and a tile is held decided behind a
FETCH with reads left and behind one that waits for a full SAMPLE. -/
theorem test_tile_stages :
    let go := fun (kind : Byte) (f : Option FetchStage) (sa : Option SampleStage) (st : Option StoreStage) =>
      (after (exec .tileDecision (composing.setComp { composing.comp with
        mapRuns := [⟨0, List.replicate 256 kind⟩], fetch := f, sample := sa, store := st }))).comp
    (go 0#8 none none none).store.isSome = true ∧ (go 0#8 none none (some stored)).sample.isSome = true ∧
      (go 0#8 none (some sampled) none).fetch.isSome = true ∧
      ((go 3#8 none none none).fetch.map fun f => f.todo.length) = some 12 ∧
      (go 0#8 (some fetching) none none).decided.isSome = true ∧
      (go 0#8 (some fetched) (some sampled) none).decided.isSome = true := by decide +kernel

/-- The tile of camera 1 is PENDING, then unavailable; FETCH is free, has reads left, and waits for a full SAMPLE. -/
theorem witness_TileDecisionWaitsOrDecidesOnce :
    let s := composingSingle .pending
    let u := composingSingle (.unavailable .off)
    s.Takes ∧ s.comp.state = .issuing ∧ s.comp.decided = none ∧ s.comp.index < 384 ∧
      s.comp.recordBytes s.comp.index = some [1#8, 1#8, 0#8, 0#8] ∧
      tileRecordOf [1#8, 1#8, 0#8, 0#8] = some (.single 1) ∧ s.comp.slot = some 0 ∧ s.active.pair = some ⟨0, 4, 0⟩ ∧
      (∃ i ∈ (TileRecord.single 1).needs, s.comp.selection[i] = .pending) ∧
      (∀ i ∈ (TileRecord.single 1).needs, u.comp.selection[i] ≠ .pending) ∧ u.comp.fetch = none ∧
      u.comp.hold = none ∧ u.comp.sample = none ∧ u.comp.store = none ∧ fetching.todo ≠ [] ∧
      ({ u.comp with fetch := some fetched, sample := some sampled } : Composer).fetch = some ⟨onTheWay, [], [9#8]⟩ := by
  decide +kernel

theorem witness_SampleDoneStoresPixelsAndCountsTriples :
    sampling.Takes ∧ sampling.comp.sample =
      some ⟨⟨0, .single 1, .fresh, 0, ⟨1, 1, 0⟩, [⟨1, ⟨0, 0#16, 0#32, 1280, 960⟩⟩]⟩, List.replicate 100 0xFF#8, [], [], none⟩ ∧
      sampling.comp.store = none := by decide +kernel

/-- `s` with a burst on the port. -/
def withBurst (s : State) (c : Client) (len : Nat) : State :=
  s.setArb { Arbiter.default with port := some ⟨c, 0, len, none, true⟩ }

/-- Camera 0 with a line of 300 bytes. -/
def oneLine : State :=
  started.setCam 0 { Camera.default with fifo := [⟨2, 5, List.replicate 300 7#8, 0⟩] }

/-- A camera burst before and at the end of its line (R56); the last SCAN burst of line 0, which brings the fetch of
line 1 (R120); a tile-map run (R130); a FETCH burst after which the tile goes on, and a SAMPLE burst (R94, R95). -/
theorem test_burst_credits :
    let go := fun (s : State) (c : Client) (n : Nat) => after (exec .burstComplete (withBurst s c n))
    ((go oneLine (.camera 0) 256).cams[0].fifo.map PendingLine.written) = [256] ∧
      (go oneLine (.camera 0) 300).cams[0].fifo = [] ∧
      ((go (scanning [⟨0, List.replicate 1440 0#8, false⟩]) (.scan 0) 96).out.places.map fun p =>
        (p.line, p.got.length)) = [(0, 1536), (2, 0)] ∧
      ((go composing (.tileMap 1) 256).comp.mapRuns.map fun r => (r.run, r.bytes.length)) = [(0, 256), (1, 256)] ∧
      (go (composing.setComp { composing.comp with fetch := some fetching }) .fetch 20).comp.store.isSome = true ∧
      ((go (composing.setComp { composing.comp with sample := some ⟨onTheWay, [], [⟨0, 9⟩], [], none⟩ }) .sample
        9).comp.sample.map fun x => (x.todo, x.got.length)) = some ([], 9) := by decide +kernel

/-- No burst; a write; a burst no longer wanted; a burst of each requester; a STORE burst before and at the end of a
tile that is not the last. -/
theorem witness_BurstWritesItsBytesAlone :
    (started.arb.port = none ∧ writing.arb.port = some ⟨.job, 63389576, 1, some [3#8], true⟩ ∧ writing.MemoryLaw ∧
      writing.Takes ∧ writing.memStart = .complete) ∧
    (∀ c n, (withBurst composing c n).arb.port = some ⟨c, 0, n, none, true⟩) ∧
    oneLine.cams[0].fifo = ⟨2, 5, List.replicate 300 7#8, 0⟩ :: [] ∧
    (scanning [⟨0, List.replicate 1440 0#8, false⟩]).out.source ≠ none ∧
    (some fetching = some ⟨onTheWay, ⟨0, 20⟩ :: [], []⟩ ∧ some stored = some ⟨onTheWay, List.replicate 3072 0#8, 0⟩) ∧
    composing.comp.state = .issuing ∧ 2815 + 256 < 3072 ∧ 3072 ≤ 2816 + 256 :=
  ⟨by decide +kernel, fun _ _ => rfl, by decide +kernel, by decide +kernel, ⟨rfl, rfl⟩, by decide +kernel⟩

theorem witness_FrameCompletePublishesTheFrame :
    lastStore.Takes ∧ lastStore.memStart = .complete ∧
      lastStore.arb.port = some ⟨.store, 60158976, 256, some (List.replicate 256 0#8), true⟩ ∧
      lastStore.comp.state = .draining ∧ lastStore.comp.fetch = none ∧ lastStore.comp.sample = none ∧
      (lastStore.comp.store.map StoreStage.written) = some 2816 ∧ 3072 ≤ 2816 + 256 ∧ lastStore.comp.slot = some 0 ∧
      lastStore.out.slots[0] = .composing 1#16 := by decide +kernel

theorem witness_GainMovesAnEighthOfTheWay :
    let zs : Vector Zone 4 := #v[⟨5120000, 4400000, 4096⟩, ⟨0, 1, 4096⟩, ⟨1, 1, 4095⟩, ⟨1, 1, 4096⟩]
    (128 ≤ #v[128, 512, 256, 256][(0 : Fin 4)] ∧ #v[128, 512, 256, 256][(1 : Fin 4)] ≤ 512) ∧
      zoneValid 0 0 zs[0] = true ∧ zoneValid 1 1 zs[1] = false ∧ zoneValid 2 2 zs[2] = false ∧
      zoneValid 3 2 zs[2] = false ∧ zoneValid 3 3 zs[3] = true := by decide +kernel

/-- Lines ended 0 and 768; a place free; both lines held; no source; an underrun. -/
theorem witness_LinesEndAndUnderrunInOrder :
    (scanning [⟨0, [], false⟩]).Takes ∧ (scanning []).out.linesEnded < 768 ∧
      768 ≤ (started.setOut { Output.default with linesEnded := 768 }).out.linesEnded ∧ started.out.source = none ∧
      (scanning [⟨0, [], false⟩]).out.source = some 1 ∧ (scanning [⟨0, [], false⟩]).out.slots[1] = .scanning 9#16 ∧
      (scanning [⟨0, [], false⟩]).out.places.find? (fun x => decide (x.line = 0)) = some ⟨0, [], false⟩ ∧
      800 ≤ started.timer.timing.period ∧ 31528 = (767 + 1) * (33333 / 800) + 511 * (33333 / 800) / 512 ∧
      40 < 33333 / 800 ∧ 769 * (33333 / 800) ≤ 31529 := by decide +kernel

theorem witness_ResetsLeaveTheManualsValues :
    withBanks.Takes ∧ withBanks.memStart = .complete ∧ withBanks.occupancy < 16 := by decide +kernel

/-- Before the body fill; at its first burst; at its last burst. -/
theorem witness_MemoryStartFillsTheBodyPlaneAndStarts :
    State.reset.Takes ∧ State.reset.memStart = .bringUp ∧ State.reset.arb.port = none ∧
      ((State.reset.setMemStart (.bodyFill 4607)).setArb { Arbiter.default with port := some (fillBurst 4607) }).memStart =
        .bodyFill 4607 ∧ 4607 + 1 = 4608 ∧ started.memStart ≠ .bringUp := by decide +kernel

/-- The offers: SCAN the next column of line 33 (R115), STORE before FETCH, the tile-map run when no stage has a burst
(R130), and with both sources of AUX the one not served last (R131). -/
theorem test_offers :
    let body := (composing.setSlot (some ⟨0x24#8, 1#8, .bodyWrite 0 0 [1#8], 0, []⟩)).setBanks
      { composing.banks with engine := some ⟨3, []⟩ }
    ((scanOffer (scanning [⟨33, List.replicate 192 0#8, false⟩]).out).map fun b => b.addr - outAddr 1) =
        some (3072 * 18 + 96) ∧
      ((compOffer (composing.setComp { composing.comp with store := some stored, fetch := some fetching })).map
        Burst.client) = some .store ∧
      ((compOffer composing).map Burst.client) = some (.tileMap 1) ∧
      ((auxOffer body).map Prod.snd) = some .job ∧
      ((auxOffer (body.setArb { Arbiter.default with auxLast := .job })).map Prod.snd) = some .verify := by
  decide +kernel

/-- SCAN offers; camera 2 alone offers; COMP alone; AUX alone; a port in use; each stage of COMP and each source of
AUX with and without a burst. -/
theorem witness_GrantFollowsTheOrder :
    let camOnly := started.setCam 2 { Camera.default with fifo := [⟨0, 0, [1#8], 0⟩] }
    let last := composing.setComp { composing.comp with index := 383, mapRuns := [⟨5, []⟩] }
    (started.arb.port = none ∧ started.memStart = .complete ∧ started.Takes ∧
      (scanOffer (scanning [⟨0, [], false⟩]).out).isSome = true ∧ scanOffer camOnly.out = none ∧
      (camOffer camOnly (camOnly.arb.lastCam + 1 + 2)).isSome = true ∧
      (∀ d : Fin 4, d < 2 → camOffer camOnly (camOnly.arb.lastCam + 1 + d) = none) ∧
      (∀ c : Fin 4, camOffer storing c = none) ∧ (compOffer storing).isSome = true ∧
      compOffer (writing.setArb Arbiter.default) = none ∧ (auxOffer (writing.setArb Arbiter.default)).isSome = true) ∧
    (writing.arb.port ≠ none ∧ State.reset.memStart ≠ .complete) ∧
    (scanning [⟨7, List.replicate 1440 0#8, false⟩]).out.places = [] ++ ⟨7, List.replicate 1440 0#8, false⟩ :: [] ∧
    oneLine.cams[0].fifo = ⟨2, 5, List.replicate 300 7#8, 0⟩ :: [] ∧
    (started.comp.state = .idle ∧ composing.comp.state ≠ .idle ∧ composing.active.pair = some ⟨0, 4, 0⟩ ∧
      storing.comp.store = some ⟨onTheWay, List.replicate 3072 0#8, 0⟩ ∧ composing.comp.index / 64 = 0 ∧
      (∃ r ∈ composing.comp.mapRuns, r.run = 0) ∧ (¬ ∃ r ∈ composing.comp.mapRuns, r.run = 1) ∧
      last.comp.index / 64 = 5 ∧ (∃ r ∈ last.comp.mapRuns, r.run = 5)) ∧
    (writing.slot = some ⟨0x21#8, 5#8, .bankWrite 7 5 0 [3#8], 0, []⟩ ∧
      0 < (JobWork.bankWrite 7 5 0 [3#8]).run.len ∧ started.slot = none ∧ started.banks.engine = none) := by
  decide +kernel

theorem witness_EveryStepKeepsTheMemoryCanonical : writing.MemoryLaw ∧ (step writing) ≠ .fault .malformedTile := by
  constructor
  · decide +kernel
  · rw [show step writing = .next (tick writing) from rfl]
    intro h
    cases h

theorem witness_EveryStepKeepsTheQueueWithinSixteen : (queued 16).QueueLaw ∧ State.reset.QueueLaw :=
  ⟨⟨by decide +kernel, fun h => absurd h (by decide +kernel)⟩, ⟨by decide +kernel, fun _ =>
    ⟨by decide +kernel, by decide +kernel, rfl, rfl, rfl, rfl, rfl, rfl⟩⟩⟩

theorem witness_EveryStepKeepsGainsAndTimingInRange : started.GainLaw ∧ started.CadenceLaw :=
  ⟨⟨by decide +kernel, by decide +kernel⟩,
    ⟨by decide +kernel, ⟨by decide +kernel, by decide +kernel, by decide +kernel⟩, by intro n h; cases h⟩⟩

theorem witness_EveryStepKeepsListedBanksReady :
    (withBanks.setStaged { Params.default with table := some table191 }).TableLaw := by
  refine ⟨⟨by decide +kernel, by decide +kernel, by intro e h; cases h⟩, ?_, by intro es h; cases h⟩
  intro es h
  cases h
  exact ⟨0x3A91C07E#32, by decide +kernel⟩

theorem witness_EveryStepKeepsOneFillingAndOneInUse : composing.RingLaw := by
  refine ⟨fun i => ⟨?_, ?_⟩, ?_, by decide +kernel, by decide +kernel⟩
  · revert i; decide +kernel
  · revert i; decide +kernel
  · intro i k h
    exact absurd h (by revert i k; decide +kernel)

theorem witness_EveryStepKeepsTheSlotsAndNoMarkStops : composing.SlotLaw :=
  ⟨by decide +kernel, by decide +kernel, by decide +kernel, by decide +kernel, by decide +kernel, by decide +kernel,
    by decide +kernel⟩

theorem witness_EveryStepKeepsTheTreatmentCounts : lastStore.CountLaw :=
  ⟨by decide +kernel, by decide +kernel, by decide +kernel, by decide +kernel, by decide +kernel, by decide +kernel⟩

/-- At or below the first key, at the last key, and between two keys. -/
theorem witness_BankPairFollowsTheHeight :
    (table191.map TableEntry.key).Pairwise (· < ·) ∧ table191 = [⟨-60, 1⟩] ++ ⟨0, 0⟩ :: ⟨60, 4⟩ :: [] ∧
      table191 = ⟨-60, 1⟩ :: [⟨0, 0⟩, ⟨60, 4⟩] ∧ table191 = [⟨-60, 1⟩, ⟨0, 0⟩] ++ [⟨60, 4⟩] ∧ (-60 : Int) ≤ -60 ∧
      (0 : Int) ≤ 0 ∧ (0 : Int) < 60 := by decide +kernel

theorem witness_HeightInterpolationStaysBetweenTheBanks :
    (255 : Nat) ≤ 255 ∧ 4382 ≤ 4430 ∧ 24 < 25 ∧ onTheWay.pair.low ≠ onTheWay.pair.high ∧ onTheWay.pair.f ≤ 255 := by decide

/-- The last local pixel, with all four corners valid, and with one NONE. -/
theorem witness_SourcePositionLiesBetweenTheCorners :
    (31 : Nat) < 32 ∧ (List.replicate 25 (some (8099, 4410))).getD ((31 / 8) * 5 + 31 / 8 + 6) none = some (8099, 4410) ∧
      ((List.replicate 24 (some (8099, 4410)) ++ [none]).getD ((31 / 8) * 5 + 31 / 8 + 6) none) = none := by
  decide +kernel

/-- The tile of `sampling`: SINGLE of camera 1, one bank. -/
def seen : Tile := ⟨0, .single 1, .fresh, 0, ⟨1, 1, 0⟩, [⟨1, ⟨0, 0#16, 0#32, 1280, 960⟩⟩]⟩

/-- A pixel whose corners are all (0x1010, 0x1010) comes from column and row 257, here clamped to 0 (R12). -/
theorem test_clamped_source :
    let v : View := ⟨1, ⟨0, 0#16, 0#32, 1, 1⟩⟩
    touch v.answer (some (0x1010, 0x1010)) [] = [⟨0, 0, 0⟩] ∧
      (ViewData.mk v (seen.points (List.replicate 100 0x10#8) 0) [⟨0, 0, 0⟩] [9#8, 8#8, 7#8]).pixel
        (Vector.replicate 4 256) 31 31 = some ⟨9#8, 8#8, 7#8⟩ := by decide +kernel

theorem witness_SampleGainAndBlendStayInRange :
    (15 : Nat) < 16 ∧ (128 ≤ 128 ∧ 512 ≤ 512) ∧ (255 : Nat) < 256 ∧ seen.fromCameras = true ∧
      (seen.views.map View.cam).Nodup ∧ 31 < 32 ∧ (0 : Fin 4) ∉ seen.views.map View.cam ∧
      seen.views[0]? = some ⟨1, ⟨0, 0#16, 0#32, 1280, 960⟩⟩ ∧
      sourcePos (seen.points (List.replicate 100 0xFF#8) 0) 31 31 = none ∧
      sourcePos (seen.points (List.replicate 100 0x10#8) 0) 31 31 = some (0x1010, 0x1010) := by decide +kernel

end Sys2Proof.Tests
end

section
/-! Height interpolation and mesh interpolation (Section 1): the equations and bounds of R6, R9 and R10, where the
stored points and weights of a tile stand among the bytes that FETCH read, and the two statements that rest on them. -/

namespace Sys2Proof.Machine

/-! ### Height interpolation of one value (R6, R8) -/

/-- For f ≤ 255 the sum of R6 is never negative, so the model's `toNat` cuts nothing off. -/
theorem heightInterp_toInt (lo hi f : Nat) (hf : f ≤ 255) :
    (heightInterp lo hi f : Int) = lo + Int.fdiv ((hi - lo) * f + 128) 256 := by
  have hstep : -(lo : Int) ≤ (((hi : Int) - lo) * f + 128) / 256 := by
    refine (Int.le_ediv_iff_mul_le (by decide)).mpr ?_
    have hhi : (0 : Int) ≤ hi * f := by positivity
    have hlo : (lo : Int) * f ≤ lo * 255 := Int.mul_le_mul_of_nonneg_left (by omega) (by omega)
    rw [Int.sub_mul]
    omega
  rw [Int.fdiv_eq_ediv_of_nonneg _ (by decide), heightInterp]
  exact Int.toNat_of_nonneg (by omega)

theorem heightInterp_zero (lo hi : Nat) : heightInterp lo hi 0 = lo := by
  simp [heightInterp]

theorem heightInterp_self (lo f : Nat) : heightInterp lo lo f = lo := by
  simp [heightInterp]

/-- An upper bound of both banks' values bounds the interpolated value. -/
theorem heightInterp_le (lo hi f m : Nat) (hf : f ≤ 255) (hlo : lo ≤ m) (hhi : hi ≤ m) :
    heightInterp lo hi f ≤ m := by
  obtain ⟨rising, falling⟩ := heightInterp_between lo hi f hf
  rcases Nat.le_total lo hi with h | h
  · exact (rising h).2.trans hhi
  · exact (falling h).2.trans hlo

theorem pointInterp_none_right (p : Option (Nat × Nat)) (f : Nat) : pointInterp p none f = none := by
  cases p <;> rfl

/-! ### A tile's points and weights among the bytes that FETCH read (R95) -/

theorem slice_slice (bs : List Byte) (i n j m : Nat) (h : j + m ≤ n) :
    slice (slice bs i n) j m = slice bs (i + j) m := by
  unfold slice
  rw [List.drop_take, List.drop_drop, List.take_take, Nat.min_eq_left (by omega)]

theorem byteAt_slice (bs : List Byte) (i n j : Nat) (h : j < n) :
    byteAt (slice bs i n) j = byteAt bs (i + j) := by
  simp [byteAt, slice, List.getElem?_take_of_lt h]

theorem u16At_slice (bs : List Byte) (i n j : Nat) (h : j + 2 ≤ n) :
    u16At (slice bs i n) j = u16At bs (i + j) := by
  rw [u16At, slice_slice bs i n j 2 h, u16At]

/-- A control point is four bytes, u and then v, so it reads the same within any slice that holds it. -/
theorem pointAt_slice (bs : List Byte) (i n j : Nat) (h : j + 4 ≤ n) :
    pointAt (slice bs i n) j = pointAt bs (i + j) := by
  rw [pointAt, u16At_slice bs i n j (by omega), u16At_slice bs i n (j + 2) (by omega), ← Nat.add_assoc, pointAt]

theorem BankPair.meshBytes_eq (p : BankPair) : p.meshBytes = if p.low = p.high then 100 else 200 := by
  unfold BankPair.meshBytes BankPair.banks
  split <;> rfl

theorem getD_map_range {α : Type} (g : Nat → α) (n k : Nat) (d : α) (h : k < n) :
    ((List.range n).map g).getD k d = g k := by
  simp [h]

/-- Point k of view i: the low bank's 100 bytes, then the high bank's, or the one bank's bytes twice (R6, R7). -/
theorem Tile.points_getD (t : Tile) (fetched : List Byte) (i k : Nat) (hk : k < 25) :
    let p := t.pair.meshBytes * i + 4 * k
    (t.points fetched i).getD k none =
      pointInterp (pointAt fetched p) (pointAt fetched (if t.pair.low = t.pair.high then p else p + 100)) t.pair.f := by
  unfold Tile.points
  simp only [getD_map_range _ 25 k _ hk]
  rw [pointAt_slice fetched _ 100 _ (by omega), Nat.mul_comm i]
  split
  · rw [pointAt_slice fetched _ 100 _ (by omega)]
  · rw [pointAt_slice fetched _ 100 _ (by omega), Nat.add_right_comm]

/-- Weight k: the low bank's 25 bytes stand after all views' meshes, then the high bank's (R8). -/
theorem Tile.weights_getD (t : Tile) (fetched : List Byte) (k : Nat) (hk : k < 25) :
    let w := t.pair.meshBytes * t.views.length + k
    (t.weights fetched).getD k 0 =
      heightInterp (byteAt fetched w).toNat
        (byteAt fetched (if t.pair.low = t.pair.high then w else w + 25)).toNat t.pair.f := by
  unfold Tile.weights u8At
  simp only [getD_map_range _ 25 k _ hk]
  rw [byteAt_slice fetched _ 25 _ hk, Nat.mul_comm t.views.length]
  split
  · rw [byteAt_slice fetched _ 25 _ hk]
  · rw [byteAt_slice fetched _ 25 _ hk, Nat.add_right_comm]

/-- A stored weight is a byte, and interpolation by height does not leave the two stored weights (R8). -/
theorem Tile.weights_getD_le (t : Tile) (fetched : List Byte) (k : Nat) (hk : k < 25) (hf : t.pair.f ≤ 255) :
    (t.weights fetched).getD k 0 ≤ 255 := by
  rw [Tile.weights_getD t fetched k hk]
  have byte_le (b : Byte) : b.toNat ≤ 255 := Nat.le_of_lt_succ b.isLt
  exact heightInterp_le _ _ _ _ hf (byte_le _) (byte_le _)

/-- Settles O58: R6's sum is nonnegative for f ≤ 255, and each stored point and weight is read at its own place. -/
theorem heightInterpolationStaysBetweenTheBanks : Obligations.HeightInterpolationStaysBetweenTheBanks := by
  unfold Obligations.HeightInterpolationStaysBetweenTheBanks
  constructor
  · intro lo hi f hf
    obtain ⟨rising, falling⟩ := heightInterp_between lo hi f hf
    exact ⟨heightInterp_toInt lo hi f hf, heightInterp_zero lo hi, heightInterp_self lo f, rising, falling,
      fun m => heightInterp_le lo hi f m hf, fun _ _ => rfl, fun _ _ => rfl,
      fun p => ⟨rfl, pointInterp_none_right p f⟩⟩
  · intro t fetched i k hk one mesh p w
    have hmesh : mesh = t.pair.meshBytes := t.pair.meshBytes_eq.symm
    refine ⟨?_, ?_, Tile.weights_getD_le t fetched k hk⟩
    · simpa only [p, hmesh] using Tile.points_getD t fetched i k hk
    · simpa only [w, hmesh] using Tile.weights_getD t fetched k hk

/-! ### Mesh interpolation within a cell (R9, R10) -/

/-- The mean of a cell's corners lies between the smallest and the largest corner. -/
theorem cellMix_mem_corners (a b p q r s : Nat) (ha : a ≤ 8) (hb : b ≤ 8) :
    min (min p q) (min r s) ≤ cellMix a b p q r s ∧ cellMix a b p q r s ≤ max (max p q) (max r s) :=
  cellMix_between a b p q r s _ _ ha hb (by omega) (by omega)

/-- On a control point corner 00 has the whole weight of 64, and the rounding does not move it. -/
theorem cellMix_control_point (p q r s : Nat) : cellMix 0 0 p q r s = p := by
  unfold cellMix
  omega

/-- With all four corners present, each coordinate is mixed by itself. -/
theorem sourcePos_of_corners (pts : List (Option (Nat × Nat))) (x y : Nat) (p00 p10 p01 p11 : Nat × Nat)
    (h00 : pts.getD (cornerIndex x y) none = some p00) (h10 : pts.getD (cornerIndex x y + 1) none = some p10)
    (h01 : pts.getD (cornerIndex x y + 5) none = some p01) (h11 : pts.getD (cornerIndex x y + 6) none = some p11) :
    sourcePos pts x y =
      some (cellMix (x % 8) (y % 8) p00.1 p10.1 p01.1 p11.1, cellMix (x % 8) (y % 8) p00.2 p10.2 p01.2 p11.2) := by
  simp only [sourcePos, h00, h10, h01, h11]

/-- A NONE corner takes the view away, and nothing else does. -/
theorem sourcePos_eq_none_iff (pts : List (Option (Nat × Nat))) (x y : Nat) :
    sourcePos pts x y = none ↔
      pts.getD (cornerIndex x y) none = none ∨ pts.getD (cornerIndex x y + 1) none = none ∨
        pts.getD (cornerIndex x y + 5) none = none ∨ pts.getD (cornerIndex x y + 6) none = none := by
  constructor
  · intro hnone
    by_contra! ⟨h00, h10, h01, h11⟩
    obtain ⟨p00, h00⟩ := Option.ne_none_iff_exists'.mp h00
    obtain ⟨p10, h10⟩ := Option.ne_none_iff_exists'.mp h10
    obtain ⟨p01, h01⟩ := Option.ne_none_iff_exists'.mp h01
    obtain ⟨p11, h11⟩ := Option.ne_none_iff_exists'.mp h11
    rw [sourcePos_of_corners pts x y p00 p10 p01 p11 h00 h10 h01 h11] at hnone
    cases hnone
  · intro hcorner
    simp only [sourcePos]
    split
    case h_1 h00 h10 h01 h11 => simp only [h00, h10, h01, h11, reduceCtorEq, or_self] at hcorner
    case h_2 => rfl

theorem getD_zero_le (ws : List Nat) (i n : Nat) (h : ∀ v ∈ ws, v ≤ n) : ws.getD i 0 ≤ n := by
  rw [List.getD_eq_getElem?_getD]
  cases hi : ws[i]? with
  | none => exact Nat.zero_le n
  | some v => exact h v (List.mem_of_getElem? hi)

/-- An upper bound of all the tile's weights bounds the pixel weight (R10). -/
theorem pixelWeight_le (ws : List Nat) (x y n : Nat) (h : ∀ v ∈ ws, v ≤ n) : pixelWeight ws x y ≤ n :=
  (cellMix_between _ _ _ _ _ _ 0 n (by omega) (by omega) (by omega)
    ⟨getD_zero_le ws _ n h, getD_zero_le ws _ n h, getD_zero_le ws _ n h, getD_zero_le ws _ n h⟩).2

/-- Settles O59: a position and a pixel weight are `cellMix` of the cell's corners, whose weights sum to 64. -/
theorem sourcePositionLiesBetweenTheCorners : Obligations.SourcePositionLiesBetweenTheCorners := by
  unfold Obligations.SourcePositionLiesBetweenTheCorners
  intro pts x y _ _ k a b
  have ha : a ≤ 8 := by omega
  have hb : b ≤ 8 := by omega
  refine ⟨sourcePos_eq_none_iff pts x y, ?_, ?_⟩
  · intro u00 v00 u10 v10 u01 v01 u11 v11 h00 h10 h01 h11
    obtain ⟨ulo, uhi⟩ := cellMix_mem_corners a b u00 u10 u01 u11 ha hb
    obtain ⟨vlo, vhi⟩ := cellMix_mem_corners a b v00 v10 v01 v11 ha hb
    refine ⟨_, _, sourcePos_of_corners pts x y _ _ _ _ h00 h10 h01 h11, rfl, rfl, ulo, uhi, vlo, vhi, ?_⟩
    intro a0 b0
    show cellMix a b u00 u10 u01 u11 = u00 ∧ cellMix a b v00 v10 v01 v11 = v00
    rw [a0, b0]
    exact ⟨cellMix_control_point .., cellMix_control_point ..⟩
  · intro ws w w00 w10 w01 w11
    obtain ⟨wlo, whi⟩ := cellMix_mem_corners a b w00 w10 w01 w11 ha hb
    exact ⟨rfl, wlo, whi, pixelWeight_le ws x y 255⟩

end Sys2Proof.Machine
end

section
/-! What a request that the link takes comes to: its owner's body, and the replies as the statements write them. -/

namespace Sys2Proof.Machine

/-! ### A request that is taken (R147 step 6, R149, R150) -/

theorem passGate_of_accepts (kind tag : Byte) (body : State → State) (s : State) (h : s.Accepts) :
    passGate kind tag body s = body s := by
  obtain ⟨released, started, slotFree, room⟩ := h
  simp [passGate, State.starting, released, started, slotFree, Nat.not_le.mpr room]

theorem State.replyStatus_eq_refused (s : State) (kind tag : Byte) (st : Status) (h : kind ∈ requestKinds) :
    s.replyStatus kind tag st = s.refused kind tag st := by
  have hc : requestKinds.contains kind = true := List.contains_iff_mem.mpr h
  simp only [State.replyStatus, replyKind, hc, if_true]
  rfl

theorem State.replyOk_eq_answered (s : State) (kind tag : Byte) (data : List Byte) (h : kind ∈ requestKinds) :
    s.replyOk kind tag data = s.answered (kind + 0x80#8) tag (0#8 :: data) := by
  have hc : requestKinds.contains kind = true := List.contains_iff_mem.mpr h
  simp only [State.replyOk, replyKind, hc, if_true]
  rfl

end Sys2Proof.Machine
end

section
/-! HEIGHT_TABLE (Section 2): its four outcomes, the list that a payload spells, when the table checks pass, and the two
statements that rest on them. -/

namespace Sys2Proof.Machine

/-! ### HEIGHT_TABLE: the four outcomes (R38, R39) -/

section heightTable
variable (tag : Byte) (p : List Byte) (s : State)

theorem exec_heightTable_of_accepts (h : s.Accepts) : exec (.heightTable tag p) s = .next (heightTableBody tag p s) :=
  congrArg Host.Outcome.next (passGate_of_accepts 0x30#8 tag (heightTableBody tag p) s h)

theorem heightTableBody_of_wrongSize (hsize : p = [] ∨ p.length ≠ 1 + 3 * u8At p 0) :
    heightTableBody tag p s = s.refused 0x30#8 tag .length := by
  rw [heightTableBody, if_pos (by rwa [List.length_eq_zero_iff])]
  exact s.replyStatus_eq_refused _ _ _ (by decide)

variable (hsize : p.length = 1 + 3 * u8At p 0)
include hsize

theorem heightTableBody_of_outOfRange
    (hrange : u8At p 0 = 0 ∨ 8 < u8At p 0 ∨ (rawEntriesOf p).all entryInRange = false) :
    heightTableBody tag p s = s.refused 0x30#8 tag .range := by
  rw [heightTableBody, if_neg (by omega), if_pos hrange]
  exact s.replyStatus_eq_refused _ _ _ (by decide)

variable (hcount : 1 ≤ u8At p 0 ∧ u8At p 0 ≤ 8) (hentries : (rawEntriesOf p).all entryInRange = true)
include hcount hentries

theorem heightTableBody_of_inRange : heightTableBody tag p s =
    if tableValid s.banks.dir (entriesOf (rawEntriesOf p)) = true then
      (s.setStaged { s.staged with table := some (entriesOf (rawEntriesOf p)) }).answered 0xB0#8 tag [0#8]
    else s.refused 0x30#8 tag .table := by
  have hform : ¬ (u8At p 0 = 0 ∨ 8 < u8At p 0 ∨ (rawEntriesOf p).all entryInRange = false) := by
    rw [hentries]
    simp only [Bool.true_eq_false, or_false]
    omega
  rw [heightTableBody, if_neg (by omega), if_neg hform]
  cases tableValid s.banks.dir (entriesOf (rawEntriesOf p))
  · exact s.replyStatus_eq_refused _ _ _ (by decide)
  · exact State.replyOk_eq_answered _ _ _ _ (by decide)

end heightTable

/-! ### HEIGHT_TABLE: the form of the payload (R38) -/

theorem entryInRange_eq_false_iff (key : Int) (bank : Nat) :
    entryInRange (key, bank) = false ↔ key < -250 ∨ 250 < key ∨ 7 < bank := by
  rw [entryInRange, decide_eq_false_iff_not]
  omega

/-- The range test fails when some entry of the payload has a key or a bank number out of range. -/
theorem rawEntriesOf_outOfRange_iff (p : List Byte) : (rawEntriesOf p).all entryInRange = false ↔
    ∃ k < u8At p 0, i16At p (1 + 3 * k) < -250 ∨ 250 < i16At p (1 + 3 * k) ∨ 7 < u8At p (3 + 3 * k) := by
  simp only [rawEntriesOf, List.all_eq_false, List.mem_map, List.mem_range, Bool.not_eq_true]
  constructor
  · rintro ⟨e, ⟨k, hk, rfl⟩, he⟩
    exact ⟨k, hk, (entryInRange_eq_false_iff _ _).mp he⟩
  · rintro ⟨k, hk, he⟩
    exact ⟨_, ⟨k, hk, rfl⟩, (entryInRange_eq_false_iff _ _).mpr he⟩

/-- Settles O18: each form failure is one outcome of `heightTableBody`, and a refusal writes the link alone. -/
theorem heightTableFormIsCheckedFirst : Obligations.HeightTableFormIsCheckedFirst := by
  unfold Obligations.HeightTableFormIsCheckedFirst
  intro tag p s hs n key
  rw [exec_heightTable_of_accepts tag p s hs]
  constructor
  · intro hsize
    rw [heightTableBody_of_wrongSize tag p s hsize]
  · intro _ hsize hform
    rw [heightTableBody_of_outOfRange tag p s hsize]
    rwa [rawEntriesOf_outOfRange_iff]

/-! ### HEIGHT_TABLE: the list that a payload spells (R156, Table 11-4) -/

/-- The three bytes of an entry: the key, low byte first, and the bank number. -/
def TableEntry.bytes (e : TableEntry) : List Byte := leInt16 e.key ++ [BitVec.ofNat 8 e.bank.val]

/-- The payload of a HEIGHT_TABLE that lists `es`: the entry count and the entries. -/
def tablePayload (es : List TableEntry) : List Byte := BitVec.ofNat 8 es.length :: es.flatMap TableEntry.bytes

theorem TableEntry.length_bytes (e : TableEntry) : e.bytes.length = 3 := rfl

theorem ofLe_le16 (n : Nat) (h : n < 65536) : ofLe (le16 n) = n := by
  simp only [le16, byteOf, ofLe, BitVec.toNat_ofNat]
  omega

/-- A signed 16-bit value reads back from its two bytes (R156). -/
theorem i16At_leInt16 (v : Int) (bs : List Byte) (hlo : -32768 ≤ v) (hhi : v ≤ 32767) :
    i16At (leInt16 v ++ bs) 0 = v := by
  have hu : u16At (leInt16 v ++ bs) 0 = (BitVec.ofInt 16 v).toNat := ofLe_le16 _ (BitVec.isLt _)
  rw [i16At, hu, BitVec.ofNat_toNat, BitVec.setWidth_eq, BitVec.toInt_ofInt]
  exact Int.bmod_eq_of_le (by omega) (by omega)

theorem TableEntry.u8At_bytes (e : TableEntry) : u8At e.bytes 2 = e.bank.val := by
  have hb : e.bank.val < 2 ^ 8 := by omega
  exact Nat.mod_eq_of_lt hb

/-- Blocks of one length stand one after another, block k at k times the length. -/
theorem slice_flatMap_block {α : Type} (f : α → List Byte) (w : Nat) (hw : ∀ a, (f a).length = w) (l : List α)
    (k : Nat) (hk : k < l.length) : slice (l.flatMap f) (w * k) w = f l[k] := by
  induction l generalizing k with
  | nil => cases hk
  | cons a l ih =>
    cases k with
    | zero => simp [slice, List.take_left' (hw a)]
    | succ k =>
      have hdrop : (f a ++ l.flatMap f).drop (w * (k + 1)) = (l.flatMap f).drop (w * k) := by
        rw [Nat.mul_succ, Nat.add_comm, ← List.drop_drop, List.drop_left' (hw a)]
      have := ih k (Nat.lt_of_succ_lt_succ hk)
      simpa only [slice, List.flatMap_cons, hdrop, List.getElem_cons_succ] using this

theorem slice_tablePayload (es : List TableEntry) (k : Nat) (hk : k < es.length) :
    slice (tablePayload es) (1 + 3 * k) 3 = es[k].bytes := by
  rw [← slice_flatMap_block TableEntry.bytes 3 TableEntry.length_bytes es k hk, Nat.add_comm]
  rfl

theorem length_tablePayload (es : List TableEntry) : (tablePayload es).length = 1 + 3 * es.length := by
  simp [tablePayload, List.length_flatMap, TableEntry.length_bytes]
  omega

theorem u8At_tablePayload (es : List TableEntry) (h : es.length ≤ 8) : u8At (tablePayload es) 0 = es.length :=
  Nat.mod_eq_of_lt (show es.length < 2 ^ 8 by omega)

/-- Entry k's key stands at byte 1 + 3k. -/
theorem i16At_tablePayload (es : List TableEntry) (k : Nat) (hk : k < es.length)
    (hkey : -250 ≤ es[k].key ∧ es[k].key ≤ 250) : i16At (tablePayload es) (1 + 3 * k) = es[k].key := by
  have hentry : i16At (slice (tablePayload es) (1 + 3 * k) 3) 0 = es[k].key := by
    rw [slice_tablePayload es k hk]
    exact i16At_leInt16 _ _ (by omega) (by omega)
  rwa [i16At, u16At_slice _ _ _ _ (by omega)] at hentry

/-- Entry k's bank number stands at byte 3 + 3k. -/
theorem u8At_tablePayload_bank (es : List TableEntry) (k : Nat) (hk : k < es.length) :
    u8At (tablePayload es) (3 + 3 * k) = es[k].bank.val := by
  have hentry : u8At (slice (tablePayload es) (1 + 3 * k) 3) 2 = es[k].bank.val := by
    rw [slice_tablePayload es k hk, TableEntry.u8At_bytes]
  rwa [u8At, byteAt_slice _ _ _ _ (by omega), show 1 + 3 * k + 2 = 3 + 3 * k by omega] at hentry

theorem rawEntriesOf_tablePayload (es : List TableEntry) (hlen : es.length ≤ 8)
    (hkeys : ∀ e ∈ es, -250 ≤ e.key ∧ e.key ≤ 250) :
    rawEntriesOf (tablePayload es) = es.map fun e => (e.key, e.bank.val) := by
  refine List.ext_getElem (by simp [rawEntriesOf, u8At_tablePayload es hlen]) fun k _ hk => ?_
  rw [List.length_map] at hk
  simp only [rawEntriesOf, List.getElem_map, List.getElem_range,
    i16At_tablePayload es k hk (hkeys _ (List.getElem_mem hk)), u8At_tablePayload_bank es k hk]

theorem entriesOf_rawEntries (es : List TableEntry) : entriesOf (es.map fun e => (e.key, e.bank.val)) = es := by
  simp [entriesOf, Function.comp_def]

theorem rawEntries_inRange (es : List TableEntry) (hkeys : ∀ e ∈ es, -250 ≤ e.key ∧ e.key ≤ 250) :
    (es.map fun e => (e.key, e.bank.val)).all entryInRange = true := by
  simp only [List.all_eq_true, List.mem_map, entryInRange, decide_eq_true_eq]
  rintro _ ⟨e, he, rfl⟩
  exact ⟨(hkeys e he).1, (hkeys e he).2, by omega⟩

/-! ### HEIGHT_TABLE: the table checks (R39) -/

/-- Each key above the one before it puts all keys in order. -/
theorem ascending_iff (es : List TableEntry) :
    ascending es = true ↔ (es.map TableEntry.key).Pairwise (· < ·) := by
  rw [← List.isChain_iff_pairwise]
  induction es with
  | nil => simp [ascending]
  | cons a es ih =>
    cases es with
    | nil => simp [ascending]
    | cons b es => simp_all [ascending]

theorem distinctBanks_iff (es : List TableEntry) : distinctBanks es = true ↔ (es.map TableEntry.bank).Nodup := by
  induction es with
  | nil => simp [distinctBanks]
  | cons a es ih => simp [distinctBanks, ih]

theorem BankEntry.digest?_eq_some_iff (b : BankEntry) (d : Word) : b.digest? = some d ↔ b = .ready d := by
  cases b <;> simp [BankEntry.digest?]

/-- All digests are the first one's just when there is a digest with which every listed bank is READY. -/
theorem readyAlike_iff (dir : Vector BankEntry 8) (es : List TableEntry) :
    readyAlike dir es = true ↔ ∃ d, ∀ e ∈ es, dir[e.bank] = .ready d := by
  simp only [← BankEntry.digest?_eq_some_iff]
  cases es with
  | nil => simp [readyAlike]
  | cons a es =>
    simp only [readyAlike, Bool.and_eq_true, Option.isSome_iff_exists, List.all_eq_true, decide_eq_true_eq]
    constructor
    · rintro ⟨⟨d, hd⟩, hall⟩
      exact ⟨d, fun e he => (hall e he).trans hd⟩
    · rintro ⟨d, hd⟩
      have ha := hd a List.mem_cons_self
      exact ⟨⟨d, ha⟩, fun e he => (hd e he).trans ha.symm⟩

theorem tableValid_iff (dir : Vector BankEntry 8) (es : List TableEntry) : tableValid dir es = true ↔
    (es.map TableEntry.key).Pairwise (· < ·) ∧ (es.map TableEntry.bank).Nodup ∧
      ∃ d, ∀ e ∈ es, dir[e.bank] = .ready d := by
  rw [tableValid, Bool.and_eq_true, Bool.and_eq_true, ascending_iff, distinctBanks_iff, readyAlike_iff, and_assoc]

/-- Settles O19: the payload spells `es` back, in range, so the outcome is that of the table checks on `es`. -/
theorem heightTableIsStagedExactlyWhenValid : Obligations.HeightTableIsStagedExactlyWhenValid := by
  unfold Obligations.HeightTableIsStagedExactlyWhenValid
  intro tag es s hs hmin hmax hkeys p valid
  have hp : p = tablePayload es := rfl
  have hcount := u8At_tablePayload es hmax
  have hraw := rawEntriesOf_tablePayload es hmax hkeys
  have hvalid : tableValid s.banks.dir es = true ↔ valid := tableValid_iff s.banks.dir es
  rw [exec_heightTable_of_accepts tag p s hs, hp, heightTableBody_of_inRange tag _ s
    (by rw [length_tablePayload, hcount]) (by omega) (by rw [hraw]; exact rawEntries_inRange es hkeys),
    hraw, entriesOf_rawEntries]
  constructor
  · intro h
    rw [if_pos (hvalid.mpr h)]
  · intro h
    rw [if_neg (hvalid.not.mpr h)]

end Sys2Proof.Machine
end

section
/-! Verification (Section 2): what each check says of the bank's bytes, the outcome, what a burst does, and the statement
that rests on them. -/

namespace Sys2Proof.Machine

/-! ### The checks of a verification (R33, R34) -/

theorem pointInRange_iff (bs : List Byte) (i : Nat) :
    pointInRange bs i = true ↔ u16At bs i = 65535 ∨ u16At bs i ≤ 20464 ∧ u16At bs (i + 2) ≤ 15344 := by
  unfold pointInRange pointAt
  by_cases hnone : u16At bs i = 65535
  · simp [hnone]
  · simp [hnone]

theorem pointsPass_iff (bytes : List Byte) : pointsPass bytes = true ↔
    ∀ k < 25220, u16At bytes (4 * k) = 65535 ∨ u16At bytes (4 * k) ≤ 20464 ∧ u16At bytes (4 * k + 2) ≤ 15344 := by
  simp only [pointsPass, List.all_eq_true, List.mem_range, pointInRange_iff]

theorem slice_tileMapOf (bytes : List Byte) (t : Nat) (h : t < 384) :
    slice (tileMapOf bytes) (4 * t) 4 = slice bytes (107185 + 4 * t) 4 :=
  slice_slice bytes 107185 1536 (4 * t) 4 (by omega)

theorem tilesPass_iff (bytes : List Byte) : tilesPass bytes = true ↔
    ∀ t < 384, (tileRecordOf (slice bytes (107185 + 4 * t) 4)).isSome = true := by
  simp only [tilesPass, List.all_eq_true, List.mem_range]
  exact forall₂_congr fun t ht => by rw [slice_tileMapOf bytes t ht]

theorem zonePair_iff (p q z : Fin 4) : zonePair p q z = true ↔ (p = z ∧ q = z + 1) ∨ (p = z + 1 ∧ q = z) :=
  decide_eq_true_iff

/-! ### The forms of a tile record (R34, R158) -/

section tileRecord
variable (a b z : Byte) (r : TileRecord)

theorem tileRecordOf_void : tileRecordOf [0#8, a, b, z] = some r ↔ r = .void := by
  rw [show tileRecordOf [0#8, a, b, z] = some .void from rfl, Option.some.injEq, eq_comm]

theorem tileRecordOf_body : tileRecordOf [3#8, a, b, z] = some r ↔ r = .body := by
  rw [show tileRecordOf [3#8, a, b, z] = some .body from rfl, Option.some.injEq, eq_comm]

theorem tileRecordOf_single :
    tileRecordOf [1#8, a, b, z] = some r ↔ ∃ p : Fin 4, a.toNat = p.val ∧ r = .single p := by
  have hrec : tileRecordOf [1#8, a, b, z] = if a.toNat ≤ 3 then some (.single (Fin.ofNat 4 a.toNat)) else none := rfl
  rw [hrec]
  constructor
  · intro h
    split at h
    · next ha => exact ⟨Fin.ofNat 4 a.toNat, (Nat.mod_eq_of_lt (by omega)).symm, (Option.some.inj h).symm⟩
    · cases h
  · rintro ⟨p, hp, rfl⟩
    rw [hp, if_pos (by omega), Fin.ofNat_val_eq_self]

theorem tileRecordOf_blend : tileRecordOf [2#8, a, b, z] = some r ↔
    ∃ p q y : Fin 4, a.toNat = p.val ∧ b.toNat = q.val ∧ z.toNat = y.val ∧
      ((p = y ∧ q = y + 1) ∨ (p = y + 1 ∧ q = y)) ∧ r = .blend p q y := by
  have hrec : tileRecordOf [2#8, a, b, z] =
      if a.toNat ≤ 3 ∧ b.toNat ≤ 3 ∧ z.toNat ≤ 3 ∧
        zonePair (Fin.ofNat 4 a.toNat) (Fin.ofNat 4 b.toNat) (Fin.ofNat 4 z.toNat) = true then
        some (.blend (Fin.ofNat 4 a.toNat) (Fin.ofNat 4 b.toNat) (Fin.ofNat 4 z.toNat)) else none := rfl
  rw [hrec]
  constructor
  · intro h
    split at h
    · next hform =>
      obtain ⟨ha, hb, hz, hpair⟩ := hform
      exact ⟨_, _, _, (Nat.mod_eq_of_lt (by omega)).symm, (Nat.mod_eq_of_lt (by omega)).symm,
        (Nat.mod_eq_of_lt (by omega)).symm, (zonePair_iff _ _ _).mp hpair, (Option.some.inj h).symm⟩
    · cases h
  · rintro ⟨p, q, y, hp, hq, hy, hpair, rfl⟩
    simp only [hp, hq, hy, Fin.ofNat_val_eq_self]
    rw [if_pos ⟨by omega, by omega, by omega, (zonePair_iff _ _ _).mpr hpair⟩]

theorem tileRecordOf_otherKind (kind : Byte) (h0 : kind ≠ 0#8) (h1 : kind ≠ 1#8) (h2 : kind ≠ 2#8) (h3 : kind ≠ 3#8) :
    tileRecordOf [kind, a, b, z] = none := by
  have hkind : u8At [kind, a, b, z] 0 = kind.toNat := rfl
  simp only [ne_eq, BitVec.toNat_eq, BitVec.toNat_ofNat] at h0 h1 h2 h3
  simp only [tileRecordOf, hkind]
  rw [if_neg (by omega), if_neg (by omega), if_neg (by omega), if_neg (by omega)]

/-- The well-formed records are those of the four forms (R22, R34). -/
theorem tileRecordOf_eq_some_iff (kind : Byte) : tileRecordOf [kind, a, b, z] = some r ↔
    (kind = 0#8 ∧ r = .void) ∨ (kind = 1#8 ∧ ∃ p : Fin 4, a.toNat = p.val ∧ r = .single p) ∨
    (kind = 2#8 ∧ ∃ p q y : Fin 4, a.toNat = p.val ∧ b.toNat = q.val ∧ z.toNat = y.val ∧
      ((p = y ∧ q = y + 1) ∨ (p = y + 1 ∧ q = y)) ∧ r = .blend p q y) ∨
    (kind = 3#8 ∧ r = .body) := by
  by_cases h0 : kind = 0#8
  · subst h0
    simp [tileRecordOf_void]
  by_cases h1 : kind = 1#8
  · subst h1
    simp [tileRecordOf_single]
  by_cases h2 : kind = 2#8
  · subst h2
    simp [tileRecordOf_blend]
  by_cases h3 : kind = 3#8
  · subst h3
    simp [tileRecordOf_body]
  · simp [tileRecordOf_otherKind a b z kind h0 h1 h2 h3, h0, h1, h2, h3]

end tileRecord

/-! ### The outcome of a verification (R35) -/

section verdict
variable (check : Word) (bytes : List Byte)

theorem verdict_of_badCheck (h : crc32 bytes ≠ check) :
    verdict check bytes = (.faulty, [4#8, 1#8, 0#8, 0#8, 0#8]) := if_pos h

variable (hcheck : crc32 bytes = check)
include hcheck

theorem verdict_of_badPoint (h : pointsPass bytes ≠ true) :
    verdict check bytes = (.faulty, [4#8, 2#8, 0#8, 0#8, 0#8]) := by
  rw [verdict, if_neg (not_not.mpr hcheck), if_pos (Bool.eq_false_of_not_eq_true h)]
  rfl

theorem verdict_of_badTile (hpoints : pointsPass bytes = true) (h : tilesPass bytes ≠ true) :
    verdict check bytes = (.faulty, [4#8, 3#8, 0#8, 0#8, 0#8]) := by
  rw [verdict, if_neg (not_not.mpr hcheck), if_neg (by simp [hpoints]), if_pos (Bool.eq_false_of_not_eq_true h)]
  rfl

theorem verdict_of_noFailure (hpoints : pointsPass bytes = true) (htiles : tilesPass bytes = true) :
    verdict check bytes = (.ready (crc32 (tileMapOf bytes)), 3#8 :: le32 (crc32 (tileMapOf bytes)).toNat) := by
  rw [verdict, if_neg (not_not.mpr hcheck), if_neg (by simp [hpoints]), if_neg (by simp [htiles])]
  rfl

end verdict

/-! ### A burst of a verification (R31, R35) -/

/-- With no bank in hand the engine takes the head of the queue, if there is one. -/
theorem Banks.takeHead_of_idle (dir : Vector BankEntry 8) (queue : List (Fin 8)) :
    Banks.takeHead ⟨dir, queue, none⟩ = ⟨dir, queue, queue.head?.map fun k => ⟨k, []⟩⟩ := by
  cases queue <;> rfl

/-- The bank in hand takes its outcome, the next head is taken, and the notice is handed over. -/
theorem verifyComplete_eq (e : Engine) (check : Word) (rest : List (Fin 8)) (s : State)
    (hqueue : s.banks.queue = e.bank :: rest) (hdir : s.banks.dir[e.bank] = .verifying check) :
    verifyComplete e s =
      (s.setBanks ⟨s.banks.dir.set e.bank (verdict check e.bytes).1, rest, rest.head?.map fun k => ⟨k, []⟩⟩).notice
        .bankResult (BitVec.ofNat 8 e.bank.val :: (verdict check e.bytes).2) := by
  simp only [verifyComplete, hqueue, hdir, BankEntry.check?, Option.getD_some, List.tail_cons, Banks.takeHead_of_idle]
  rfl

section verifyBurst
variable (e : Engine) (read : List Byte) (s : State) (hengine : s.banks.engine = some e)
include hengine

theorem verifyBurstDone_of_more (h : (e.bytes ++ read).length < bankSize) :
    verifyBurstDone read s = s.setBanks { s.banks with engine := some ⟨e.bank, e.bytes ++ read⟩ } := by
  simp only [verifyBurstDone, hengine]
  rw [if_neg (Nat.not_le.mpr h)]

theorem verifyBurstDone_of_last (h : (e.bytes ++ read).length = bankSize) :
    verifyBurstDone read s = verifyComplete ⟨e.bank, e.bytes ++ read⟩ s := by
  simp only [verifyBurstDone, hengine]
  rw [if_pos h.ge]

end verifyBurst

/-- A verification's burst on the port lands and brings its bytes to the engine (R31, R129). -/
theorem exec_burstComplete_verify (b : Burst) (s : State) (ht : s.Takes) (hm : s.memStart = .complete)
    (hp : s.arb.port = some b) (hc : b.client = .verify) (hw : b.wanted = true) (hd : b.data = none) :
    exec .burstComplete s =
      .next (arbitrate (verifyBurstDone (Memory.readRun s.mem b.addr b.len) (landBurst b s))) := by
  have hread : burstRead b s = Memory.readRun s.mem b.addr b.len := by simp only [burstRead, hd]
  have hcredit : ∀ read t, creditBurst b read t = verifyBurstDone read t := fun read t => by
    simp only [creditBurst, hc]
  change Host.Outcome.next (burstComplete s) = _
  rw [burstComplete_wanted b s ht hp hw, hcredit, hread, resumeFill_of_complete _ (by simpa using hm)]

/-- Settles O27: the engine's bytes grow by the burst's; at the last byte the outcome is `verdict`'s, whose three
checks are the ones stated. -/
theorem verificationEndsReadyOrFaulty : Obligations.VerificationEndsReadyOrFaulty := by
  unfold Obligations.VerificationEndsReadyOrFaulty
  refine ⟨?_, fun kind a b z r => tileRecordOf_eq_some_iff a b z r kind⟩
  intro e b check rest s ht hm hp hc hw hd hengine hqueue hdir bytes pointsIn tilesFormed d
  have hlen : bytes.length = e.bytes.length + b.len := by
    rw [List.length_append, Memory.readRun_length]
  have hpoints : pointsPass bytes = true ↔ pointsIn := pointsPass_iff bytes
  have htiles : tilesPass bytes = true ↔ tilesFormed := tilesPass_iff bytes
  have hbanks : (landBurst b s).banks = s.banks := landBurst_banks b s
  rw [exec_burstComplete_verify b s ht hm hp hc hw hd]
  constructor
  · intro hmore
    rw [verifyBurstDone_of_more e _ _ (by rw [hbanks, hengine]) (by rwa [hlen]), hbanks]
  · intro hlast
    refine ⟨(verdict check bytes).1, (verdict check bytes).2, ?_, ?_, ?_, ?_, ?_⟩
    · intro hbad
      simp [verdict_of_badCheck check bytes hbad]
    · intro hcheck hbad
      simp [verdict_of_badPoint check bytes hcheck (hpoints.not.mpr hbad)]
    · intro hcheck hin hbad
      simp [verdict_of_badTile check bytes hcheck (hpoints.mpr hin) (htiles.not.mpr hbad)]
    · intro hcheck hin hformed
      rw [verdict_of_noFailure check bytes hcheck (hpoints.mpr hin) (htiles.mpr hformed)]
      exact ⟨rfl, rfl⟩
    · rw [verifyBurstDone_of_last e _ _ (by rw [hbanks, hengine]) (hlen.trans hlast),
        verifyComplete_eq ⟨e.bank, bytes⟩ check rest _ (by rw [hbanks, hqueue]) (by rw [hbanks, hdir]), hbanks]

end Sys2Proof.Machine
end

section
/-! Frame rings (Section 3): what each operation of a camera port does to the FILLING and the IN_USE slot, and that
every step keeps the rings' law of R60. -/

namespace Sys2Proof.Machine

/-! ### FILLING and IN_USE slots of one ring (R60) -/

theorem get_set_fin {α : Type} {n : Nat} (v : Vector α n) (k j : Fin n) (x : α) :
    (v.set k x)[j] = if j = k then x else v[j] := by
  simp only [Fin.getElem_fin, Vector.getElem_set, Fin.ext_iff, eq_comm]

/-- At most one place of a vector has a property, and keeps so when the place set has it already or no place has. -/
theorem unique_of_set {α : Type} {n : Nat} (v : Vector α n) (p : α → Bool) (k : Fin n) (x : α)
    (h : ∀ i j : Fin n, p v[i] = true → p v[j] = true → i = j)
    (hx : p x = true → p v[k] = true ∨ ∀ j : Fin n, p v[j] = false) (i j : Fin n)
    (hi : p (v.set k x)[i] = true) (hj : p (v.set k x)[j] = true) : i = j := by
  have hk : ∀ m : Fin n, p (v.set k x)[m] = true → m = k ∧ p x = true ∨ m ≠ k ∧ p v[m] = true := by
    intro m hm
    rw [get_set_fin] at hm
    split at hm
    · next e => exact .inl ⟨e, hm⟩
    · next e => exact .inr ⟨e, hm⟩
  have one : ∀ m : Fin n, p v[m] = true → p x = true → m = k := by
    intro m hm hpx
    rcases hx hpx with hvk | hnone
    · exact h m k hm hvk
    · rw [hnone m] at hm
      cases hm
  rcases hk i hi with ⟨hik, hpx⟩ | ⟨hik, hvi⟩ <;> rcases hk j hj with ⟨hjk, hpx'⟩ | ⟨hjk, hvj⟩
  · rw [hik, hjk]
  · exact absurd (one j hvj hpx) hjk
  · exact absurd (one i hvi hpx') hik
  · exact h i j hvi hvj

/-- `d` has a FILLING or an IN_USE slot only where `c` has one. -/
structure Camera.NoNewSlots (c d : Camera) : Prop where
  filling : ∀ k : Fin 4, d.slots[k].isFilling = true → c.slots[k].isFilling = true
  inUse : ∀ k : Fin 4, d.slots[k].isInUse = true → c.slots[k].isInUse = true

theorem Camera.NoNewSlots.of_eq {c d : Camera} (h : d.slots = c.slots) : c.NoNewSlots d := by
  constructor <;> intro k <;> rw [h] <;> exact id

theorem Camera.NoNewSlots.trans {c d e : Camera} (h : c.NoNewSlots d) (g : d.NoNewSlots e) : c.NoNewSlots e :=
  ⟨fun k hk => h.filling k (g.filling k hk), fun k hk => h.inUse k (g.inUse k hk)⟩

theorem Camera.NoNewSlots.of_set {c d : Camera} {k : Fin 4} {x : RingSlot} (h : d.slots = c.slots.set k x)
    (hfilling : x.isFilling = true → c.slots[k].isFilling = true)
    (hinUse : x.isInUse = true → c.slots[k].isInUse = true) : c.NoNewSlots d := by
  constructor <;> intro j <;> rw [h, get_set_fin] <;> split
  · next e => rw [e]; exact hfilling
  · exact id
  · next e => rw [e]; exact hinUse
  · exact id

theorem Camera.NoNewSlots.of_map {c d : Camera} {f : RingSlot → RingSlot} (h : d.slots = c.slots.map f)
    (hfilling : ∀ x, (f x).isFilling = true → x.isFilling = true)
    (hinUse : ∀ x, (f x).isInUse = true → x.isInUse = true) : c.NoNewSlots d := by
  constructor <;> intro k <;> rw [h, Fin.getElem_fin, Vector.getElem_map]
  · exact hfilling _
  · exact hinUse _

theorem Camera.RingLaw.of_noNewSlots {c d : Camera} (h : c.RingLaw) (g : c.NoNewSlots d) : d.RingLaw :=
  ⟨fun i j hi hj => h.filling i j (g.filling i hi) (g.filling j hj),
    fun i j hi hj => h.inUse i j (g.inUse i hi) (g.inUse j hj)⟩

theorem mem_cams4 (k : Fin 4) : k ∈ cams4 := by
  revert k; decide

theorem Camera.isFilling_of_fillingSlot (c : Camera) (k : Fin 4) (h : c.fillingSlot = some k) :
    c.slots[k].isFilling = true :=
  List.find?_some (p := fun k : Fin 4 => c.slots[k].isFilling) h

theorem Camera.fillingSlot_eq_none_iff (c : Camera) :
    c.fillingSlot = none ↔ ∀ k : Fin 4, c.slots[k].isFilling = false := by
  simp [Camera.fillingSlot, List.find?_eq_none, mem_cams4]

/-! ### Events of the port (R48 to R58) -/

theorem Camera.reacquire_slots (c : Camera) : c.reacquire.slots = c.slots := by
  unfold Camera.reacquire; split <;> rfl

theorem Camera.burstDone_slots (c : Camera) (n : Nat) : (c.burstDone n).slots = c.slots := by
  unfold Camera.burstDone
  split
  · rfl
  · split <;> rfl

theorem Camera.recordDamage_noNewSlots (c : Camera) (k : Fin 4) (d : DamageClass) :
    c.NoNewSlots (c.recordDamage k d) :=
  .of_set (k := k) (x := .empty) rfl nofun nofun

theorem Camera.interrupt_noNewSlots (c : Camera) : c.NoNewSlots c.interrupt := by
  unfold Camera.interrupt
  split
  · exact .of_eq rfl
  · exact c.recordDamage_noNewSlots _ _

/-- Step 1 of R53 leaves no FILLING slot: at most one stood, and it has been closed. -/
theorem Camera.interrupt_isFilling (c : Camera) (h : c.RingLaw) (k : Fin 4) :
    c.interrupt.slots[k].isFilling = false := by
  unfold Camera.interrupt
  split
  · next hnone => exact c.fillingSlot_eq_none_iff.mp hnone k
  · next j hj =>
    have hfilling : c.slots[j].isFilling = true := c.isFilling_of_fillingSlot j hj
    change (c.slots.set j .empty)[k].isFilling = false
    rw [get_set_fin]
    split
    · rfl
    · next hkj => exact Bool.eq_false_iff.mpr fun hk => hkj (h.filling k j hk hfilling)

/-- Steps 2 to 4 of R53 make at most the chosen slot FILLING, and change no other. -/
theorem Camera.openFrame_slots (c : Camera) (now : Word) : (c.openFrame now).slots = c.slots ∨
    ∃ k : Fin 4, (c.openFrame now).slots = c.slots.set k (.filling c.frameCounter now 0) := by
  unfold Camera.openFrame
  split
  · exact .inl rfl
  · exact .inr ⟨_, rfl⟩

theorem Camera.openFrame_inUse (c : Camera) (now : Word) (k : Fin 4)
    (h : (c.openFrame now).slots[k].isInUse = true) : c.slots[k].isInUse = true := by
  rcases c.openFrame_slots now with e | ⟨j, e⟩ <;> rw [e] at h
  · exact h
  · rw [get_set_fin] at h
    split at h
    · cases h
    · exact h

theorem Camera.openFrame_ringLaw (c : Camera) (now : Word) (h : c.RingLaw)
    (hnone : ∀ k : Fin 4, c.slots[k].isFilling = false) : (c.openFrame now).RingLaw := by
  rcases c.openFrame_slots now with e | ⟨k, e⟩
  · exact h.of_noNewSlots (.of_eq e)
  · constructor <;> rw [e]
    · exact unique_of_set c.slots RingSlot.isFilling k _ h.filling fun _ => .inr hnone
    · exact unique_of_set c.slots RingSlot.isInUse k _ h.inUse nofun

theorem Camera.reacquire_interrupt_noNewSlots (c : Camera) : c.NoNewSlots c.reacquire.interrupt :=
  (Camera.NoNewSlots.of_eq c.reacquire_slots).trans c.reacquire.interrupt_noNewSlots

theorem Camera.frameStart_ringLaw (c : Camera) (now : Word) (h : c.RingLaw) : (c.frameStart now).RingLaw :=
  Camera.openFrame_ringLaw _ now (h.of_noNewSlots c.reacquire_interrupt_noNewSlots)
    (c.reacquire.interrupt_isFilling (h.of_noNewSlots (.of_eq c.reacquire_slots)))

theorem Camera.frameStart_inUse (c : Camera) (now : Word) (k : Fin 4)
    (h : (c.frameStart now).slots[k].isInUse = true) : c.slots[k].isInUse = true :=
  c.reacquire_interrupt_noNewSlots.inUse k (Camera.openFrame_inUse _ now k h)

theorem Camera.takeLine_noNewSlots (c : Camera) (bytes : List Byte) : c.NoNewSlots (c.takeLine bytes) := by
  unfold Camera.takeLine
  split
  · exact .of_eq rfl
  · next k _ =>
    split
    · repeat' split
      · exact .of_eq rfl
      · exact .of_eq rfl
      · exact .of_eq rfl
      · refine .of_set (k := k) rfl ?_ ?_ <;> cases c.slots[k] <;> exact id
    · exact .of_eq rfl

theorem Camera.endFrame_noNewSlots (c : Camera) (now : Word) : c.NoNewSlots (c.endFrame now) := by
  unfold Camera.endFrame
  split
  · exact .of_eq rfl
  · next k _ =>
    split
    · split
      · exact .of_set (k := k) (x := .empty) rfl nofun nofun
      · next n a lines _ _ _ => exact .of_set (k := k) (x := .ready n a now lines false) rfl nofun nofun
    · exact .of_eq rfl

theorem RingSlot.cleared_isFilling (x : RingSlot) : x.cleared.isFilling = false := by
  cases x <;> rfl

theorem RingSlot.cleared_isInUse (x : RingSlot) : x.cleared.isInUse = x.isInUse := by
  cases x <;> rfl

theorem Camera.NoNewSlots.of_cleared {c d : Camera} (h : d.slots = c.slots.map RingSlot.cleared) : c.NoNewSlots d :=
  .of_map h (fun x hx => by rw [x.cleared_isFilling] at hx; cases hx) fun x hx => by rwa [x.cleared_isInUse] at hx

/-! ### Selection and release (R61 to R63) -/

theorem RingSlot.release_isInUse (drop : Bool) (x : RingSlot) : (x.release drop).isInUse = false := by
  cases x <;> cases drop <;> rfl

theorem RingSlot.release_isFilling (drop : Bool) (x : RingSlot) : (x.release drop).isFilling = x.isFilling := by
  cases x <;> cases drop <;> rfl

theorem Camera.release_isInUse (c : Camera) (k : Fin 4) : c.release.slots[k].isInUse = false := by
  rw [Fin.getElem_fin, Camera.release, Vector.getElem_map, RingSlot.release_isInUse]

theorem Camera.release_noNewSlots (c : Camera) : c.NoNewSlots c.release :=
  .of_map rfl (fun x hx => by rwa [x.release_isFilling] at hx) fun x hx => by rw [x.release_isInUse] at hx; cases hx

theorem RingSlot.select_isFilling (x : RingSlot) : x.select.isFilling = x.isFilling := by
  cases x <;> rfl

/-- A selection selects the slot of its answer when the camera is available, and changes no slot when it is not. -/
theorem Camera.selected_cases (c : Camera) (i : Fin 4) (p : Params) (now : Word) :
    c.selected i p now = c ∨ ∃ a, c.answer i p now = .available a ∧
      c.selected i p now = { c with slots := c.slots.set a.slot c.slots[a.slot].select } := by
  unfold Camera.selected
  split
  · next a ha => exact .inr ⟨a, ha, rfl⟩
  · exact .inl rfl

/-- A camera without an IN_USE slot has at most one after a selection, the one of the answer. -/
theorem Camera.selected_ringLaw (c : Camera) (i : Fin 4) (p : Params) (now : Word) (h : c.RingLaw)
    (hfree : ∀ k : Fin 4, c.slots[k].isInUse = false) : (c.selected i p now).RingLaw := by
  rcases c.selected_cases i p now with e | ⟨a, _, e⟩ <;> rw [e]
  · exact h
  · constructor
    · exact unique_of_set c.slots RingSlot.isFilling a.slot _ h.filling fun hx => .inl (by
        rwa [RingSlot.select_isFilling] at hx)
    · exact unique_of_set c.slots RingSlot.isInUse a.slot _ h.inUse fun _ => .inr hfree

/-- Only an available answer puts a slot IN_USE (R62). -/
theorem Camera.selected_inUse (c : Camera) (i : Fin 4) (p : Params) (now : Word)
    (hfree : ∀ k : Fin 4, c.slots[k].isInUse = false) (k : Fin 4)
    (hk : (c.selected i p now).slots[k].isInUse = true) : ∃ a, c.answer i p now = .available a := by
  rcases c.selected_cases i p now with e | ⟨a, ha, _⟩
  · rw [e, hfree] at hk
    cases hk
  · exact ⟨a, ha⟩

/-! ### What the law speaks of in the rest of the state -/

/-- `d` has the selection table of `c`, and is IDLE or ABANDONING just when `c` is. -/
structure Composer.SamePhase (c d : Composer) : Prop where
  selection : d.selection = c.selection
  idle : d.state = .idle ↔ c.state = .idle
  abandoning : d.state = .abandoning ↔ c.state = .abandoning

theorem Composer.SamePhase.of_eq {c d : Composer} (hsel : d.selection = c.selection) (hstate : d.state = c.state) :
    c.SamePhase d :=
  ⟨hsel, by rw [hstate], by rw [hstate]⟩

theorem Composer.SamePhase.trans {c d e : Composer} (h : c.SamePhase d) (g : d.SamePhase e) : c.SamePhase e :=
  ⟨g.selection.trans h.selection, g.idle.trans h.idle, g.abandoning.trans h.abandoning⟩

/-- An issue takes ISSUING to ISSUING or DRAINING (R94). -/
theorem Composer.issue_samePhase (c : Composer) : c.SamePhase c.issue := by
  unfold Composer.issue
  split
  · next hstate _ _ => constructor <;> simp only [hstate] <;> split <;> simp
  · exact .of_eq rfl rfl

theorem Composer.SamePhase.advance {c d : Composer} (p : Params) (h : c.SamePhase d) : c.SamePhase (d.advance p) :=
  Composer.advance_keeps (fun e => c.SamePhase e) p
    (fun e h => h.trans (.of_eq e.toStore_same.selection e.toStore_issued.state))
    (fun e h => h.trans (.of_eq (e.toSample_same p).selection (e.toSample_issued p).state))
    (fun e h => h.trans e.issue_samePhase) d h

/-- A return from WAITING ends in ISSUING (R89). -/
theorem Composer.resume_cases (c : Composer) :
    c.resume = c ∨ c.state = .waiting ∧ c.resume = { c with state := .issuing } := by
  unfold Composer.resume
  split
  · next hwaiting =>
    split
    · split
      · exact .inl rfl
      · exact .inr ⟨hwaiting, rfl⟩
    · exact .inl rfl
  · exact .inl rfl

theorem Composer.resume_samePhase (c : Composer) : c.SamePhase c.resume := by
  rcases c.resume_cases with e | ⟨hwaiting, e⟩ <;> rw [e]
  · exact .of_eq rfl rfl
  · constructor <;> simp [hwaiting]

/-- A decision in ISSUING ends in WAITING, ISSUING or DRAINING (R88). -/
theorem Composer.decideTile_samePhase (c : Composer) (r : TileRecord) (p : Params) (k : Fin 3) (pair : BankPair)
    (hissuing : c.state = .issuing) : c.SamePhase (c.decideTile r p k pair) := by
  unfold Composer.decideTile
  split
  · constructor <;> simp [hissuing]
  · exact .advance p (.of_eq rfl rfl)

/-- `t` has the rings, the armed points, the selection table and the phase of `s`: all that the rings' law speaks of. -/
structure State.SameRings (s t : State) : Prop where
  cams : t.cams = s.cams
  armed : t.timer.armed = s.timer.armed
  phase : s.comp.SamePhase t.comp

theorem State.SameRings.of_comp_eq {s t : State} (hcams : t.cams = s.cams) (htimer : t.timer = s.timer)
    (hcomp : t.comp = s.comp) : s.SameRings t :=
  ⟨hcams, by rw [htimer], by rw [hcomp]; exact .of_eq rfl rfl⟩

theorem State.SameRings.trans {s t u : State} (h : s.SameRings t) (g : t.SameRings u) : s.SameRings u :=
  ⟨g.cams.trans h.cams, g.armed.trans h.armed, h.phase.trans g.phase⟩

theorem State.SameRings.notice {s t : State} (k : NoticeKind) (p : List Byte) (h : s.SameRings t) :
    s.SameRings (t.notice k p) :=
  h.trans (.of_comp_eq (t.notice_cams k p) (t.notice_timer k p) (t.notice_comp k p))

theorem State.SameRings.arbitrate {s t : State} (h : s.SameRings t) : s.SameRings (arbitrate t) :=
  h.trans (.of_comp_eq (arbitrate_cams t) (arbitrate_timer t) (arbitrate_comp t))

theorem State.SameRings.resumeFill {s t : State} (h : s.SameRings t) : s.SameRings (resumeFill t) :=
  h.trans (.of_comp_eq (resumeFill_cams t) (resumeFill_timer t) (resumeFill_comp t))

theorem State.RingLaw.of_sameRings {s t : State} (h : s.RingLaw) (g : s.SameRings t) : t.RingLaw where
  ring := by rw [g.cams]; exact h.ring
  used := by rw [g.cams, g.phase.selection]; exact h.used
  armed i hi := by
    rw [g.armed] at hi
    obtain ⟨hpending, hidle, habandoning⟩ := h.armed i hi
    exact ⟨by rwa [g.phase.selection], mt g.phase.idle.mp hidle, mt g.phase.abandoning.mp habandoning⟩
  idle hidle := by
    rw [g.phase.selection]
    exact h.idle (g.phase.idle.mp hidle)

/-! ### The law when one port changes (R45 to R58) -/

theorem State.RingLaw.of_setCam {s : State} (h : s.RingLaw) (i : Fin 4) {c : Camera} (hring : c.RingLaw)
    (hused : ∀ k : Fin 4, c.slots[k].isInUse = true → s.cams[i].slots[k].isInUse = true) :
    (s.setCam i c).RingLaw where
  ring j := by
    rw [State.setCam_get]
    split
    · exact hring
    · exact h.ring j
  used j k hk := by
    rw [State.setCam_get] at hk
    split at hk
    · next e => rw [e]; exact h.used i k (hused k hk)
    · exact h.used j k hk
  armed := h.armed
  idle := h.idle

theorem State.RingLaw.of_setCam_noNewSlots {s : State} (h : s.RingLaw) (i : Fin 4) {c : Camera}
    (g : s.cams[i].NoNewSlots c) : (s.setCam i c).RingLaw :=
  h.of_setCam i ((h.ring i).of_noNewSlots g) g.inUse

theorem State.RingLaw.of_setCam_slots {s : State} (h : s.RingLaw) (i : Fin 4) (c : Camera)
    (g : c.slots = s.cams[i].slots) : (s.setCam i c).RingLaw :=
  h.of_setCam_noNewSlots i (.of_eq g)

theorem State.RingLaw.arbitrate {s : State} (h : s.RingLaw) : (arbitrate s).RingLaw :=
  h.of_sameRings (.arbitrate (.of_comp_eq rfl rfl rfl))

theorem State.RingLaw.cameraNotice {s : State} (h : s.RingLaw) (i : Fin 4) : (s.cameraNotice i).RingLaw :=
  h.of_sameRings (.notice .camera _ (.of_comp_eq rfl rfl rfl))

theorem State.RingLaw.setLink {s : State} (h : s.RingLaw) (l : Link) : (s.setLink l).RingLaw :=
  h.of_sameRings (.of_comp_eq rfl rfl rfl)

section cameraRequests
variable (tag : Byte) (p : List Byte) (s : State) (h : s.RingLaw)
include h

theorem camSetupBody_ringLaw : (camSetupBody tag p s).RingLaw := by
  unfold camSetupBody
  dsimp only
  split
  · exact h.setLink _
  split
  · exact h.setLink _
  split
  · exact h.setLink _
  split
  · exact h.setLink _
  · refine (h.of_setCam_slots _ _ ?_).setLink _
    rfl

theorem camOnBody_ringLaw : (camOnBody tag p s).RingLaw := by
  unfold camOnBody
  dsimp only
  split
  · exact h.setLink _
  split
  · exact h.setLink _
  split
  · exact h.setLink _
  · exact (h.of_setCam_noNewSlots _ (.of_cleared rfl)).setLink _

theorem camOffBody_ringLaw : (camOffBody tag p s).RingLaw := by
  unfold camOffBody
  dsimp only
  split
  · exact h.setLink _
  split
  · exact h.setLink _
  split
  · exact h.setLink _
  · exact (h.of_setCam_noNewSlots _ (.of_cleared rfl)).setLink _

end cameraRequests

section cameraEvents
variable (i : Fin 4) (s : State) (h : s.RingLaw)
include h

theorem frameStartEvent_ringLaw : (frameStartEvent i s).RingLaw := by
  have hring : (s.cams[i].frameStart s.timer.timebase).RingLaw := Camera.frameStart_ringLaw _ _ (h.ring i)
  have hused := s.cams[i].frameStart_inUse s.timer.timebase
  unfold frameStartEvent
  dsimp only
  split
  · exact h
  · have hreacquired : ((s.setCam i s.cams[i].reacquire).cameraNotice i).RingLaw :=
      (h.of_setCam_slots i _ s.cams[i].reacquire_slots).cameraNotice i
    refine hreacquired.of_setCam i hring fun k hk => ?_
    rw [State.cameraNotice, State.notice_cams, State.setCam_get_same, Camera.reacquire_slots]
    exact hused k hk
  · exact h.of_setCam i hring hused
  · exact h.of_setCam i hring hused

theorem lineEvent_ringLaw (bytes : List Byte) : (lineEvent i bytes s).RingLaw := by
  unfold lineEvent
  split
  · exact h
  · exact (h.of_setCam_noNewSlots i (s.cams[i].takeLine_noNewSlots bytes)).arbitrate

theorem frameEndEvent_ringLaw : (frameEndEvent i s).RingLaw := by
  have hended : (s.setCam i (s.cams[i].endFrame s.timer.timebase)).RingLaw :=
    h.of_setCam_noNewSlots i (s.cams[i].endFrame_noNewSlots _)
  unfold frameEndEvent
  dsimp only
  split
  · exact h
  split
  · exact hended.cameraNotice i
  · exact hended

theorem lossTimerExpiryEvent_ringLaw : (lossTimerExpiryEvent i s).RingLaw := by
  unfold lossTimerExpiryEvent
  split
  · exact (h.of_setCam_slots i s.cams[i].expire rfl).cameraNotice i
  · exact h

end cameraEvents

theorem tick_ringLaw (s : State) (h : s.RingLaw) : (tick s).RingLaw := by
  unfold tick
  split
  · exact h
  · have hcams : ∀ i : Fin 4, (s.cams.map Camera.countDown)[i].slots = s.cams[i].slots := fun i => by
      rw [Fin.getElem_fin, Vector.getElem_map]
      rfl
    refine ⟨fun i => (h.ring i).of_noNewSlots (.of_eq (hcams i)), fun i k hk => h.used i k ?_, h.armed, h.idle⟩
    rw [← hcams i]
    exact hk

/-! ### A selection and a composition start (R74, R84, R86) -/

section selectCamera
variable (i j : Fin 4) (s : State)

theorem selectCamera_get : (selectCamera i s).cams[j] =
    if j = i then s.cams[i].selected i s.active s.timer.timebase else s.cams[j] :=
  s.setCam_get i _ j

theorem selectCamera_armed : (selectCamera i s).timer.armed[j] = if j = i then false else s.timer.armed[j] :=
  get_set_fin s.timer.armed i j false

theorem selectCamera_phase : Composer.SamePhase
    { s.comp with selection := s.comp.selection.set i (s.cams[i].answer i s.active s.timer.timebase) }
    (selectCamera i s).comp :=
  Composer.resume_samePhase _

theorem selectCamera_selection : (selectCamera i s).comp.selection[j] =
    if j = i then s.cams[i].answer i s.active s.timer.timebase else s.comp.selection[j] := by
  rw [(selectCamera_phase i s).selection]
  exact get_set_fin s.comp.selection i j _

end selectCamera

/-- A camera whose entry is not available has no IN_USE slot. -/
theorem State.RingLaw.isInUse_of_pending {s : State} (h : s.RingLaw) (i : Fin 4)
    (hpending : s.comp.selection[i] = .pending) (k : Fin 4) : s.cams[i].slots[k].isInUse = false := by
  refine Bool.eq_false_iff.mpr fun hk => ?_
  obtain ⟨a, ha⟩ := h.used i k hk
  rw [hpending] at ha
  cases ha

/-- An armed point's entry is PENDING, so its camera has no IN_USE slot before the selection and at most one after. -/
theorem selectCamera_ringLaw (i : Fin 4) (s : State) (h : s.RingLaw) (harmed : s.timer.armed[i] = true) :
    (selectCamera i s).RingLaw := by
  obtain ⟨hpending, hidle, habandoning⟩ := h.armed i harmed
  have hfree := h.isInUse_of_pending i hpending
  have hphase := selectCamera_phase i s
  refine ⟨fun j => ?_, fun j k hk => ?_, fun j hj => ?_, fun hj => absurd (hphase.idle.mp hj) hidle⟩
  · rw [selectCamera_get]
    split
    · exact Camera.selected_ringLaw _ i _ _ (h.ring i) hfree
    · exact h.ring j
  · rw [selectCamera_get] at hk
    rw [selectCamera_selection]
    split at hk
    · next e => rw [if_pos e]; exact Camera.selected_inUse _ i _ _ hfree k hk
    · next e => rw [if_neg e]; exact h.used j k hk
  · rw [selectCamera_armed] at hj
    split at hj
    · cases hj
    · next e =>
      rw [selectCamera_selection, if_neg e]
      exact ⟨(h.armed j hj).1, mt hphase.idle.mp hidle, mt hphase.abandoning.mp habandoning⟩

theorem selectionEvent_ringLaw (i : Fin 4) (s : State) (h : s.RingLaw) : (selectionEvent i s).RingLaw := by
  unfold selectionEvent
  split
  · next harmed => exact selectCamera_ringLaw i s h harmed
  · exact h

/-- An idle composer has only PENDING entries, so a composition opens with no IN_USE slot and may arm every point. -/
theorem compositionOpen_ringLaw (k : Fin 3) (s : State) (h : s.RingLaw) (hidle : s.comp.state = .idle) :
    (compositionOpen k s).RingLaw where
  ring := by
    rw [compositionOpen_cams]
    exact h.ring
  used := by
    rw [compositionOpen_cams, compositionOpen_comp]
    exact h.used
  armed i _ := by
    rw [compositionOpen_comp]
    exact ⟨h.idle hidle i, nofun, nofun⟩
  idle := by
    rw [compositionOpen_comp]
    exact nofun

/-- A property that camera `i`'s turn takes from `i` to `i + 1` comes to 4 when all four have had theirs. -/
theorem forCams_keeps (P : Nat → State → Prop) {f : Fin 4 → State → State} {s : State}
    (hf : ∀ (i : Fin 4) (t : State), P i.val t → P (i.val + 1) (f i t)) (h : P 0 s) : P 4 (forCams f s) :=
  hf 3 _ (hf 2 _ (hf 1 _ (hf 0 _ h)))

/-- The rings' law in the course of a composition start, with the points from camera `n` on still armed. -/
structure State.ArmedFrom (n : Nat) (s : State) : Prop where
  law : s.RingLaw
  armed : ∀ j : Fin 4, n ≤ j.val → s.timer.armed[j] = true

theorem State.ArmedFrom.select {i : Fin 4} {s : State} (h : s.ArmedFrom i.val) :
    (if s.timer.timing.offsets[i] = 0 then selectCamera i s else s).ArmedFrom (i.val + 1) := by
  split
  · refine ⟨selectCamera_ringLaw i s h.law (h.armed i i.val.le_refl), fun j hj => ?_⟩
    rw [selectCamera_armed, if_neg (by omega)]
    exact h.armed j (by omega)
  · exact ⟨h.law, fun j hj => h.armed j (by omega)⟩

theorem compositionStart_ringLaw (k : Fin 3) (s : State) (h : s.RingLaw) (hidle : s.comp.state = .idle) :
    (compositionStart k s).RingLaw := by
  have hopen : (compositionOpen k s).ArmedFrom 0 :=
    ⟨compositionOpen_ringLaw k s h hidle, fun j _ => by
      rw [compositionOpen_timer, Fin.getElem_fin, Vector.getElem_replicate]⟩
  exact (forCams_keeps State.ArmedFrom (fun _ _ => State.ArmedFrom.select) hopen).law

theorem missedMark_sameRings (s : State) : s.SameRings (missedMark s) := by
  unfold missedMark
  dsimp only
  split
  · exact ⟨rfl, rfl, .of_eq rfl rfl⟩
  · exact .notice .late _ ⟨rfl, rfl, .of_eq rfl rfl⟩

/-- A mark that is settled starts a composition in an idle composer, is missed, or passes (R70 to R72). -/
theorem settleMark_cases {s t : State} (e : settleMark s = .next t) :
    (s.comp.state = .idle ∧ ∃ k, t = arbitrate (compositionStart k s)) ∨ t = arbitrate (missedMark s) ∨
      t = arbitrate (passMark s) := by
  unfold settleMark at e
  split at e
  · split at e
    · next hidle =>
      split at e
      · exact nomatch e
      · exact nomatch e
      · exact .inl ⟨hidle, _, (Host.Outcome.next.inj e).symm⟩
    · exact .inr (.inl (Host.Outcome.next.inj e).symm)
  · exact .inr (.inr (Host.Outcome.next.inj e).symm)

theorem settleMark_ringLaw (s t : State) (h : s.RingLaw) (e : settleMark s = .next t) : t.RingLaw := by
  rcases settleMark_cases e with ⟨hidle, k, ht⟩ | ht | ht <;> rw [ht]
  · exact (compositionStart_ringLaw k s h hidle).arbitrate
  · exact h.of_sameRings (missedMark_sameRings s).arbitrate
  · exact h.of_sameRings (.arbitrate ⟨rfl, rfl, .of_eq rfl rfl⟩)

theorem Timer.wrap_armed (t : Timer) : t.wrap.armed = t.armed := by
  unfold Timer.wrap; split <;> rfl

theorem markDisplay_wrap_sameRings (s : State) : s.SameRings (markDisplay (s.setTimer s.timer.wrap)) :=
  ⟨rfl, s.timer.wrap_armed, .of_eq rfl rfl⟩

/-! ### The end of a composition (R63, R75, R97, R102) -/

theorem cancelPoints_comp_state (s : State) : (cancelPoints s).comp.state = s.comp.state := by
  rw [cancelPoints_whole]; rfl

/-- An armed point's entry is PENDING, so a cancel takes no available entry from a camera with an IN_USE slot. -/
theorem cancelPoints_ringLaw (s : State) (h : s.RingLaw) : (cancelPoints s).RingLaw := by
  refine ⟨?_, fun i k hk => ?_, fun i hi => ?_, fun hidle i => ?_⟩
  · rw [cancelPoints_cams]
    exact h.ring
  · rw [cancelPoints_cams] at hk
    obtain ⟨a, ha⟩ := h.used i k hk
    have hunarmed : ¬ s.timer.armed[i] = true := fun harmed => by
      rw [(h.armed i harmed).1] at ha
      cases ha
    exact ⟨a, by rw [cancelPoints_selection, if_neg hunarmed, ha]⟩
  · rw [cancelPoints_armed] at hi
    cases hi
  · rw [cancelPoints_comp_state] at hidle
    rw [cancelPoints_selection, if_neg fun harmed => (h.armed i harmed).2.1 hidle]
    exact h.idle hidle i

/-- Every IN_USE slot stands at a camera whose entry is available, so the release leaves none (R63). -/
theorem releaseSlots_isInUse (s : State) (h : s.RingLaw) (i k : Fin 4) :
    (releaseSlots s).cams[i].slots[k].isInUse = false := by
  rw [releaseSlots_get]
  split
  · exact Camera.release_isInUse _ k
  · next hsel =>
    refine Bool.eq_false_iff.mpr fun hk => ?_
    obtain ⟨a, ha⟩ := h.used i k hk
    exact hsel a ha

theorem releaseSlots_ring (s : State) (h : s.RingLaw) (i : Fin 4) : (releaseSlots s).cams[i].RingLaw := by
  rw [releaseSlots_get]
  split
  · exact (h.ring i).of_noNewSlots (Camera.release_noNewSlots _)
  · exact h.ring i

/-- A composition's end: every camera has released its slot, no point is armed and every entry is PENDING. -/
theorem State.RingLaw.of_ended {s t : State} (h : s.RingLaw) (hcams : t.cams = (releaseSlots s).cams)
    (harmed : ∀ i : Fin 4, t.timer.armed[i] = false)
    (hselection : t.comp.selection = Vector.replicate 4 .pending) : t.RingLaw where
  ring := by rw [hcams]; exact releaseSlots_ring s h
  used i k hk := by
    rw [hcams, releaseSlots_isInUse s h] at hk
    cases hk
  armed i hi := by
    rw [harmed i] at hi
    cases hi
  idle _ i := by rw [hselection, Fin.getElem_fin, Vector.getElem_replicate]

theorem frameComplete_ringLaw (s : State) (h : s.RingLaw) : (frameComplete s).RingLaw := by
  refine (cancelPoints_ringLaw s h).of_ended (by simp [frameComplete]) (fun i => ?_) rfl
  have htimer : (frameComplete s).timer = (cancelPoints s).timer := by simp [frameComplete]
  rw [htimer, cancelPoints_armed]

theorem freeSlot_sameRings (s : State) : s.SameRings (freeSlot s) :=
  .of_comp_eq (freeSlot_cams s) (freeSlot_timer s) (freeSlot_comp s)

theorem abandonEnd_ringLaw (s : State) (h : s.RingLaw) (habandoning : s.comp.state = .abandoning) :
    (abandonEnd s).RingLaw := by
  refine (h.of_sameRings (freeSlot_sameRings s)).of_ended (by simp [abandonEnd]) (fun i => ?_) ?_
  · rw [abandonEnd_timer]
    exact Bool.eq_false_iff.mpr fun harmed => (h.armed i harmed).2.2 habandoning
  · simp [abandonEnd, Composer.finish]

theorem settleEnd_ringLaw (s : State) (h : s.RingLaw) : (settleEnd s).RingLaw := by
  unfold settleEnd
  split
  · split
    · exact frameComplete_ringLaw s h
    · next habandoning => exact abandonEnd_ringLaw s h habandoning
    · exact h
  · exact h

/-- An abandon begins with no point armed and keeps the available entries (R101). -/
theorem abandonBegin_ringLaw (s : State) (h : s.RingLaw) : (abandonBegin s).RingLaw := by
  have hcancelled := cancelPoints_ringLaw s h
  unfold abandonBegin
  dsimp only
  generalize hc : cancelPoints s = c at hcancelled ⊢
  refine ⟨hcancelled.ring, hcancelled.used, fun i hi => ?_, nofun⟩
  have hunarmed : c.timer.armed[i] = false := hc ▸ cancelPoints_armed s i
  exact absurd hi (Bool.eq_false_iff.mp hunarmed)

theorem stopBody_ringLaw (tag : Byte) (p : List Byte) (s : State) (h : s.RingLaw) : (stopBody tag p s).RingLaw := by
  have hhalt : s.haltTop.RingLaw := h.of_sameRings ⟨rfl, rfl, .of_eq rfl rfl⟩
  unfold stopBody
  split
  · exact h.setLink _
  split
  · exact h.setLink _
  split
  · exact settleEnd_ringLaw _ (abandonBegin_ringLaw _ (hhalt.of_sameRings (.of_comp_eq rfl rfl rfl)))
  · exact hhalt.setLink _

/-! ### Tiles and bursts (R88, R94, R95, R129) -/

theorem tileDecision_sameRings {s t : State} (e : tileDecision s = .next t) : s.SameRings t := by
  unfold tileDecision at e
  dsimp only at e
  split at e
  · next hissuing =>
    split at e
    · split at e <;> cases e
      exact .arbitrate ⟨rfl, rfl, Composer.decideTile_samePhase _ _ _ _ _ hissuing.1⟩
    · cases e
      exact .of_comp_eq rfl rfl rfl
  · cases e
    exact .of_comp_eq rfl rfl rfl

theorem sampleArithmeticDone_sameRings (s : State) : s.SameRings (sampleArithmeticDone s) := by
  unfold sampleArithmeticDone
  split
  · exact .arbitrate ⟨rfl, rfl, .advance _ (.of_eq rfl rfl)⟩
  · exact .of_comp_eq rfl rfl rfl

theorem storeBurstDone_ringLaw (n : Nat) (s : State) (h : s.RingLaw) : (storeBurstDone n s).RingLaw := by
  unfold storeBurstDone
  split
  · exact h
  · refine settleEnd_ringLaw _ (h.of_sameRings ⟨rfl, rfl, .advance _ ?_⟩)
    split <;> exact .of_eq rfl rfl

theorem sampleBurstDone_sameRings (read : List Byte) (s : State) : s.SameRings (sampleBurstDone read s) := by
  unfold sampleBurstDone
  split <;> exact ⟨rfl, rfl, .of_eq rfl rfl⟩

theorem fetchBurstDone_sameRings (read : List Byte) (s : State) : s.SameRings (fetchBurstDone read s) := by
  unfold fetchBurstDone
  split
  · exact ⟨rfl, rfl, .advance _ (.of_eq rfl rfl)⟩
  · exact .of_comp_eq rfl rfl rfl

theorem creditBurst_ringLaw (b : Burst) (read : List Byte) (s : State) (h : s.RingLaw) :
    (creditBurst b read s).RingLaw := by
  unfold creditBurst
  cases b.client with
  | scan line => exact h.of_sameRings (.of_comp_eq rfl rfl rfl)
  | camera i => exact h.of_setCam_slots i _ (Camera.burstDone_slots _ _)
  | store => exact storeBurstDone_ringLaw _ _ h
  | sample => exact h.of_sameRings (sampleBurstDone_sameRings _ _)
  | fetch => exact h.of_sameRings (fetchBurstDone_sameRings _ _)
  | tileMap m => exact h.of_sameRings ⟨rfl, rfl, .of_eq rfl rfl⟩
  | job =>
    exact h.of_sameRings (.of_comp_eq (jobBurstDone_cams _ _ _) (jobBurstDone_timer _ _ _) (jobBurstDone_comp _ _ _))
  | verify =>
    exact h.of_sameRings (.of_comp_eq (verifyBurstDone_cams _ _) (verifyBurstDone_timer _ _)
      (verifyBurstDone_comp _ _))
  | bodyFill => exact h.of_sameRings (.of_comp_eq (fillBurstDone_cams _) (fillBurstDone_timer _) (fillBurstDone_comp _))

theorem landBurst_sameRings (b : Burst) (s : State) : s.SameRings (landBurst b s) :=
  .of_comp_eq (landBurst_cams b s) (landBurst_timer b s) (landBurst_comp b s)

theorem burstComplete_ringLaw (s : State) (h : s.RingLaw) : (burstComplete s).RingLaw := by
  unfold burstComplete
  split
  · exact h
  · next b _ =>
    have hland := h.of_sameRings (landBurst_sameRings b s)
    dsimp only
    split
    · exact hland
    · have hcredited :
          (if b.wanted then creditBurst b (burstRead b s) (landBurst b s) else landBurst b s).RingLaw := by
        split
        · exact creditBurst_ringLaw _ _ _ hland
        · exact hland
      exact hcredited.of_sameRings (.arbitrate (.resumeFill (.of_comp_eq rfl rfl rfl)))

/-! ### Resets (R66, R106) -/

/-- After either reset every ring is empty, no point is armed and every entry is PENDING. -/
theorem State.RingLaw.of_reset {s : State} (hcams : s.cams = State.reset.cams) (htimer : s.timer = State.reset.timer)
    (hcomp : s.comp = State.reset.comp) : s.RingLaw := by
  have hempty : ∀ i k : Fin 4, State.reset.cams[i].slots[k] = .empty := by decide
  have hunarmed : ∀ i : Fin 4, State.reset.timer.armed[i] = false := by decide
  have hpending : ∀ i : Fin 4, State.reset.comp.selection[i] = .pending := by decide
  rw [← hcams] at hempty
  rw [← htimer] at hunarmed
  rw [← hcomp] at hpending
  refine ⟨fun i => ⟨fun j k hj => ?_, fun j k hj => ?_⟩, fun i k hk => ?_, fun i hi => ?_, fun _ => hpending⟩
  · rw [hempty] at hj
    cases hj
  · rw [hempty] at hj
    cases hj
  · rw [hempty] at hk
    cases hk
  · rw [hunarmed] at hi
    cases hi

/-! ### Events and requests that leave the rings, the points and the entries alone -/

theorem dramInOperation_sameRings (s : State) : s.SameRings (dramInOperation s) := by
  unfold dramInOperation
  split
  · exact .resumeFill (.of_comp_eq rfl rfl rfl)
  · exact .of_comp_eq rfl rfl rfl

theorem lineTimeEndEvent_sameRings (s : State) : s.SameRings (lineTimeEndEvent s) := by
  unfold lineTimeEndEvent
  split
  · exact .arbitrate (.of_comp_eq rfl rfl rfl)
  · exact .of_comp_eq rfl rfl rfl

theorem lineUnderrunEvent_sameRings (s : State) : s.SameRings (lineUnderrunEvent s) := by
  unfold lineUnderrunEvent
  split
  · split
    · refine .arbitrate ?_
      split
      · exact .of_comp_eq rfl rfl rfl
      · exact .notice .underrun _ (.of_comp_eq rfl rfl rfl)
    · exact .of_comp_eq rfl rfl rfl
  · exact .of_comp_eq rfl rfl rfl

section otherRequests
variable (tag : Byte) (p : List Byte) (s : State)

theorem outSetupBody_sameRings : s.SameRings (outSetupBody tag p s) := by
  unfold outSetupBody
  repeat' split
  all_goals exact ⟨rfl, rfl, .of_eq rfl rfl⟩

theorem bankOpenBody_sameRings : s.SameRings (bankOpenBody tag p s) := by
  unfold bankOpenBody
  dsimp only
  repeat' split
  all_goals exact .of_comp_eq (by simp) (by simp) (by simp)

theorem bankWriteBody_sameRings : s.SameRings (bankWriteBody tag p s) := by
  unfold bankWriteBody
  dsimp only
  repeat' split
  all_goals exact .of_comp_eq (by simp) (by simp) (by simp)

theorem bankCloseBody_sameRings : s.SameRings (bankCloseBody tag p s) := by
  unfold bankCloseBody
  dsimp only
  repeat' split
  all_goals exact .of_comp_eq (by simp) (by simp) (by simp)

theorem bankReadBody_sameRings : s.SameRings (bankReadBody tag p s) := by
  unfold bankReadBody
  dsimp only
  repeat' split
  all_goals exact .of_comp_eq (by simp) (by simp) (by simp)

theorem bodyWriteBody_sameRings : s.SameRings (bodyWriteBody tag p s) := by
  unfold bodyWriteBody
  repeat' split
  all_goals exact .of_comp_eq (by simp) (by simp) (by simp)

theorem heightTableBody_sameRings : s.SameRings (heightTableBody tag p s) := by
  unfold heightTableBody
  repeat' split
  all_goals exact .of_comp_eq rfl rfl rfl

theorem heightBody_sameRings : s.SameRings (heightBody tag p s) := by
  unfold heightBody
  split <;> exact .of_comp_eq rfl rfl rfl

theorem doorsBody_sameRings : s.SameRings (doorsBody tag p s) := by
  unfold doorsBody
  repeat' split
  all_goals exact .of_comp_eq rfl rfl rfl

theorem excludeBody_sameRings : s.SameRings (excludeBody tag p s) := by
  unfold excludeBody
  repeat' split
  all_goals exact .of_comp_eq rfl rfl rfl

theorem gainsBody_sameRings : s.SameRings (gainsBody tag p s) := by
  unfold gainsBody
  repeat' split
  all_goals exact .of_comp_eq rfl rfl rfl

theorem startBody_sameRings : s.SameRings (startBody tag p s) := by
  unfold startBody
  repeat' split
  all_goals exact ⟨rfl, rfl, .of_eq rfl rfl⟩

theorem singleBody_sameRings : s.SameRings (singleBody tag p s) := by
  unfold singleBody
  repeat' split
  all_goals exact ⟨rfl, rfl, .of_eq rfl rfl⟩

end otherRequests

/-! ### Every step -/

theorem ringLaw_closed : Closed State.RingLaw where
  link _ l h := h.setLink l
  pending _ _ h := h.of_sameRings (.of_comp_eq rfl rfl rfl)
  asserted _ _ h := h.of_sameRings (.of_comp_eq rfl rfl rfl)
  pin _ _ := .of_reset rfl rfl rfl
  soft _ _ := .of_reset rfl rfl rfl
  dram s h := h.of_sameRings (dramInOperation_sameRings s)
  camSetup := camSetupBody_ringLaw
  camOn := camOnBody_ringLaw
  camOff := camOffBody_ringLaw
  outSetup tag p s h := h.of_sameRings (outSetupBody_sameRings tag p s)
  bankOpen tag p s h := h.of_sameRings (bankOpenBody_sameRings tag p s)
  bankWrite tag p s h := h.of_sameRings (bankWriteBody_sameRings tag p s)
  bankClose tag p s h := h.of_sameRings (bankCloseBody_sameRings tag p s)
  bankRead tag p s h := h.of_sameRings (bankReadBody_sameRings tag p s)
  bodyWrite tag p s h := h.of_sameRings (bodyWriteBody_sameRings tag p s)
  heightTable tag p s h := h.of_sameRings (heightTableBody_sameRings tag p s)
  height tag p s h := h.of_sameRings (heightBody_sameRings tag p s)
  doors tag p s h := h.of_sameRings (doorsBody_sameRings tag p s)
  exclude tag p s h := h.of_sameRings (excludeBody_sameRings tag p s)
  gains tag p s h := h.of_sameRings (gainsBody_sameRings tag p s)
  start tag p s h := h.of_sameRings (startBody_sameRings tag p s)
  stop := stopBody_ringLaw
  single tag p s h := h.of_sameRings (singleBody_sameRings tag p s)
  frameStart := frameStartEvent_ringLaw
  line i bytes s h := lineEvent_ringLaw i s h bytes
  frameEnd := frameEndEvent_ringLaw
  loss := lossTimerExpiryEvent_ringLaw
  mark s t h e := settleMark_ringLaw _ t (h.of_sameRings (markDisplay_wrap_sameRings s)) e
  sel := selectionEvent_ringLaw
  tile _ _ h e := h.of_sameRings (tileDecision_sameRings e)
  sample s h := h.of_sameRings (sampleArithmeticDone_sameRings s)
  burst := burstComplete_ringLaw
  lineEnd s h := h.of_sameRings (lineTimeEndEvent_sameRings s)
  under s h := h.of_sameRings (lineUnderrunEvent_sameRings s)
  tick := tick_ringLaw

/-- Settles O53: only a frame start makes a slot FILLING, after it has closed the one before; only a selection at an
armed point, whose camera has no IN_USE slot, makes one IN_USE; and the end of a composition releases every one. -/
theorem everyStepKeepsOneFillingAndOneInUse : Obligations.EveryStepKeepsOneFillingAndOneInUse := by
  unfold Obligations.EveryStepKeepsOneFillingAndOneInUse
  exact ringLaw_closed.step

end Sys2Proof.Machine
end

section
/-! CAM_ON and CAM_OFF (Section 3): their outcomes, and the one slot that they keep. -/

namespace Sys2Proof.Machine

/-! ### What both leave of a ring (R45, R46) -/

theorem RingSlot.cleared_eq (x : RingSlot) : x.cleared = if x.isInUse then x else .empty := by
  cases x <;> rfl

theorem RingSlot.get_map_cleared (v : Vector RingSlot 4) (k : Fin 4) :
    (v.map RingSlot.cleared)[k] = if v[k].isInUse then v[k] else .empty := by
  rw [Fin.getElem_fin, Vector.getElem_map, RingSlot.cleared_eq]
  rfl

theorem any_isInUse_iff (v : Vector RingSlot 4) :
    v.toList.any RingSlot.isInUse = true ↔ ∃ k : Fin 4, v[k].isInUse = true := by
  simp only [List.any_eq_true, Vector.mem_toList_iff, Vector.mem_iff_getElem]
  constructor
  · rintro ⟨x, ⟨k, hk, rfl⟩, hx⟩
    exact ⟨⟨k, hk⟩, hx⟩
  · rintro ⟨k, hx⟩
    exact ⟨_, ⟨k.val, k.isLt, rfl⟩, hx⟩

/-! ### The outcomes (R45, R46) -/

section camSwitch
variable (tag c : Byte) (s : State)

theorem exec_camOn_of_accepts (p : List Byte) (h : s.Accepts) : exec (.camOn tag p) s = .next (camOnBody tag p s) :=
  congrArg Host.Outcome.next (passGate_of_accepts 0x11#8 tag (camOnBody tag p) s h)

theorem exec_camOff_of_accepts (p : List Byte) (h : s.Accepts) : exec (.camOff tag p) s = .next (camOffBody tag p s) :=
  congrArg Host.Outcome.next (passGate_of_accepts 0x12#8 tag (camOffBody tag p) s h)

theorem camOnBody_of_noCamera (h : 3 < c.toNat) : camOnBody tag [c] s = s.refused 0x11#8 tag .range := by
  rw [camOnBody, if_neg (by simp), if_pos (by exact h)]
  exact s.replyStatus_eq_refused _ _ _ (by decide)

theorem camOffBody_of_noCamera (h : 3 < c.toNat) : camOffBody tag [c] s = s.refused 0x12#8 tag .range := by
  rw [camOffBody, if_neg (by simp), if_pos (by exact h)]
  exact s.replyStatus_eq_refused _ _ _ (by decide)

variable (i : Fin 4) (h : c.toNat = i.val)
include h

theorem ofNat_u8At_singleton : Fin.ofNat 4 (u8At [c] 0) = i := by
  have hu : u8At [c] 0 = i.val := h
  rw [hu, Fin.ofNat_val_eq_self]

theorem camOnBody_of_camera : camOnBody tag [c] s =
    if s.cams[i].state = .off then (s.setCam i s.cams[i].switchOn).answered 0x91#8 tag [0#8]
    else s.refused 0x11#8 tag .state := by
  have hrange : ¬ 3 < u8At [c] 0 := by
    have hu : u8At [c] 0 = i.val := h
    omega
  simp only [camOnBody, ofNat_u8At_singleton c i h]
  rw [if_neg (by simp), if_neg hrange, ite_not,
    State.replyOk_eq_answered _ _ _ _ (by decide), State.replyStatus_eq_refused _ _ _ _ (by decide)]
  rfl

theorem camOffBody_of_camera : camOffBody tag [c] s =
    if s.cams[i].state = .off then s.answered 0x92#8 tag [0#8]
    else (s.setCam i s.cams[i].switchOff).answered 0x92#8 tag [0#8] := by
  have hrange : ¬ 3 < u8At [c] 0 := by
    have hu : u8At [c] 0 = i.val := h
    omega
  simp only [camOffBody, ofNat_u8At_singleton c i h]
  rw [if_neg (by simp), if_neg hrange, State.replyOk_eq_answered _ _ _ _ (by decide),
    State.replyOk_eq_answered _ _ _ _ (by decide)]
  rfl

end camSwitch

/-- Settles O21: each case is one branch of `camOnBody` and `camOffBody`; the slots are those `RingSlot.cleared`
leaves, the discard mark is the camera's own or an IN_USE slot's. -/
theorem camOnAndCamOffKeepOnlyTheSlotInUse : Obligations.CamOnAndCamOffKeepOnlyTheSlotInUse := by
  unfold Obligations.CamOnAndCamOffKeepOnlyTheSlotInUse
  intro tag c s hs
  rw [exec_camOn_of_accepts tag s [c] hs, exec_camOff_of_accepts tag s [c] hs]
  constructor
  · intro h
    rw [camOnBody_of_noCamera tag c s h, camOffBody_of_noCamera tag c s h]
    exact ⟨rfl, rfl⟩
  · intro i h
    rw [camOnBody_of_camera tag c s i h, camOffBody_of_camera tag c s i h]
    refine ⟨s.cams[i].slots.map RingSlot.cleared, RingSlot.get_map_cleared _, ?_, ?_, ?_, ?_⟩
    · intro hon
      rw [if_neg hon]
    · intro hoff
      rw [if_pos hoff]
      rfl
    · intro hoff
      rw [if_pos hoff]
    · intro hon
      refine ⟨s.cams[i].discard || s.cams[i].slots.toList.any RingSlot.isInUse, ?_, ?_⟩
      · rw [Bool.or_eq_true, any_isInUse_iff]
      · rw [if_neg hon]
        rfl

end Sys2Proof.Machine
end

section
/-! HEIGHT, DOORS and EXCLUDE (Section 4): what each one stages, and the two refusals for a value out of range. -/

namespace Sys2Proof.Machine

/-! ### The values that the payloads carry (R78, R79, R80) -/

/-- A payload of two bytes is one signed 16-bit field, low byte first. -/
theorem i16At_pair (a b : Byte) : i16At [a, b] 0 = (BitVec.ofNat 16 (a.toNat + 256 * b.toNat)).toInt := rfl

/-- Clamping to −250 to +250, by the side on which the value lies (R78). -/
theorem clampHeight_eq_ite (v : Int) :
    clampHeight v = if v < -250 then -250 else if 250 < v then 250 else v := by
  rw [clampHeight, clampInt]
  split_ifs <;> omega

/-! ### The outcomes (R78, R79, R80) -/

section stagedValues
variable (tag a b : Byte) (s : State)

theorem exec_height_of_accepts (p : List Byte) (h : s.Accepts) : exec (.height tag p) s = .next (heightBody tag p s) :=
  congrArg Host.Outcome.next (passGate_of_accepts 0x31#8 tag (heightBody tag p) s h)

theorem exec_doors_of_accepts (p : List Byte) (h : s.Accepts) : exec (.doors tag p) s = .next (doorsBody tag p s) :=
  congrArg Host.Outcome.next (passGate_of_accepts 0x32#8 tag (doorsBody tag p) s h)

theorem exec_exclude_of_accepts (p : List Byte) (h : s.Accepts) :
    exec (.exclude tag p) s = .next (excludeBody tag p s) :=
  congrArg Host.Outcome.next (passGate_of_accepts 0x34#8 tag (excludeBody tag p) s h)

/-- HEIGHT has one outcome: no value of its payload is refused (R78). -/
theorem heightBody_pair : heightBody tag [a, b] s =
    (s.setStaged { s.staged with height := clampHeight (i16At [a, b] 0) }).answered 0xB1#8 tag
      ([0#8] ++ leInt16 (clampHeight (i16At [a, b] 0))) := by
  rw [heightBody, if_neg (by simp)]
  exact State.replyOk_eq_answered _ _ _ _ (by decide)

/-- The range check of DOORS reads both flags before either is staged (R79). -/
theorem doorsBody_pair : doorsBody tag [a, b] s =
    if 1 < a.toNat ∨ 1 < b.toNat then s.refused 0x32#8 tag .range
    else (s.setStaged
      { s.staged with leftOpen := decide (a = 1#8), rightOpen := decide (b = 1#8) }).answered 0xB2#8 tag [0#8] := by
  have hleft : u8At [a, b] 0 = a.toNat := rfl
  have hright : u8At [a, b] 1 = b.toNat := rfl
  have hflag : ∀ x : Byte, x.toNat = 1 ↔ x = 1#8 := fun _ => BitVec.toNat_inj (y := 1#8)
  simp only [doorsBody, hleft, hright, hflag]
  rw [if_neg (by simp), State.replyStatus_eq_refused _ _ _ _ (by decide),
    State.replyOk_eq_answered _ _ _ _ (by decide)]
  rfl

theorem excludeBody_singleton : excludeBody tag [a] s =
    if 15 < a.toNat then s.refused 0x34#8 tag .range
    else (s.setStaged { s.staged with exclude := a.setWidth 4 }).answered 0xB4#8 tag [0#8] := by
  have hmask : u8At [a] 0 = a.toNat := rfl
  simp only [excludeBody, hmask, BitVec.ofNat_toNat]
  rw [if_neg (by simp), State.replyStatus_eq_refused _ _ _ _ (by decide),
    State.replyOk_eq_answered _ _ _ _ (by decide)]
  rfl

end stagedValues

/-- Settles O15: each request is its body's one outcome or, for DOORS and EXCLUDE, one of two, and the height that
HEIGHT stages and reports is the clamped value of its payload. -/
theorem heightDoorsAndExcludeAreStaged : Obligations.HeightDoorsAndExcludeAreStaged := by
  unfold Obligations.HeightDoorsAndExcludeAreStaged
  intro tag a b s hs v h
  have hstaged : clampHeight (i16At [a, b] 0) = h := by
    rw [i16At_pair]
    exact clampHeight_eq_ite v
  refine ⟨?_, ?_, ?_⟩
  · rw [exec_height_of_accepts tag s [a, b] hs, heightBody_pair, hstaged]
  · rw [exec_doors_of_accepts tag s [a, b] hs, doorsBody_pair]
  · rw [exec_exclude_of_accepts tag s [a] hs, excludeBody_singleton]

end Sys2Proof.Machine
end

section
/-! The gain update (Section 6): the damped step by the side on which the target lies, the ratios that a camera's two
zones give, and the statement that rests on them. -/

namespace Sys2Proof.Machine

/-! ### The damped step (R112) -/

/-- A gain that rises starts at 128 or more, so only the upper clamp can act. -/
theorem dampedGain_of_le {gain target : Nat} (hlow : 128 ≤ gain) (hup : gain ≤ target) :
    dampedGain gain target = min 512 (gain + (target - gain) / 8) := by
  have hstep : Int.tdiv ((target : Int) - gain) 8 = ((target - gain) / 8 : Nat) := by
    rw [← Int.ofNat_sub hup]
    rfl
  rw [dampedGain, hstep, clampInt]
  omega

/-- For a gain that falls, truncation toward zero is the division of the difference turned round; it starts at 512 or
less, so only the lower clamp can act. -/
theorem dampedGain_of_lt {gain target : Nat} (hhigh : gain ≤ 512) (hdown : target < gain) :
    dampedGain gain target = max 128 (gain - (gain - target) / 8) := by
  have hstep : Int.tdiv ((target : Int) - gain) 8 = -((gain - target) / 8 : Nat) := by
    rw [← Int.neg_sub, ← Int.ofNat_sub hdown.le, Int.neg_tdiv]
    rfl
  rw [dampedGain, hstep, clampInt]
  omega

theorem dampedGain_eq_ite {gain : Nat} (hlow : 128 ≤ gain) (hhigh : gain ≤ 512) (target : Nat) :
    dampedGain gain target =
      if gain ≤ target then min 512 (gain + (target - gain) / 8) else max 128 (gain - (gain - target) / 8) := by
  split_ifs with hside
  · exact dampedGain_of_le hlow hside
  · exact dampedGain_of_lt hhigh (Nat.lt_of_not_le hside)

/-! ### The ratios of a camera's two zones (R110, R111) -/

theorem zoneValid_iff (c z : Fin 4) (r : Zone) : zoneValid c z r = true ↔ 4096 ≤ r.count ∧ 0 < zoneSum c z r :=
  decide_eq_true_iff

/-- Zone c comes first, then the zone before it; each gives its ratio or nothing (Table 6-2). -/
theorem ratiosOf_eq_append (c : Fin 4) (zs : Vector Zone 4) (gain : Nat) :
    ratiosOf c zs gain = (if zoneValid c c zs[c] then [zoneRatio c c zs[c] gain] else []) ++
      (if zoneValid c (c + 3) zs[c + 3] then [zoneRatio c (c + 3) zs[c + 3] gain] else []) := by
  rw [ratiosOf, List.filterMap_cons, List.filterMap_cons, List.filterMap_nil]
  split_ifs <;> rfl

section twoZones
variable {c : Fin 4} {zs : Vector Zone 4} (active staged : Vector Nat 4)

/-- A camera with no valid zone has no target, and its staged gain stands (R110). -/
theorem updatedGain_of_neither (hown : ¬ zoneValid c c zs[c]) (hprev : ¬ zoneValid c (c + 3) zs[c + 3]) :
    updatedGain c zs active staged = staged[c] := by
  rw [updatedGain, ratiosOf_eq_append, if_neg hown, if_neg hprev]
  rfl

theorem updatedGain_of_own (hown : zoneValid c c zs[c]) (hprev : ¬ zoneValid c (c + 3) zs[c + 3]) :
    updatedGain c zs active staged = dampedGain active[c] (zoneRatio c c zs[c] active[c]) := by
  rw [updatedGain, ratiosOf_eq_append, if_pos hown, if_neg hprev]
  rfl

theorem updatedGain_of_previous (hown : ¬ zoneValid c c zs[c]) (hprev : zoneValid c (c + 3) zs[c + 3]) :
    updatedGain c zs active staged = dampedGain active[c] (zoneRatio c (c + 3) zs[c + 3] active[c]) := by
  rw [updatedGain, ratiosOf_eq_append, if_neg hown, if_pos hprev]
  rfl

/-- With both zones valid the target is the mean of the two ratios, rounded half up (R112). -/
theorem updatedGain_of_both (hown : zoneValid c c zs[c]) (hprev : zoneValid c (c + 3) zs[c + 3]) :
    updatedGain c zs active staged = dampedGain active[c]
      ((zoneRatio c c zs[c] active[c] + zoneRatio c (c + 3) zs[c + 3] active[c] + 1) / 2) := by
  rw [updatedGain, ratiosOf_eq_append, if_pos hown, if_pos hprev]
  rfl

end twoZones

/-- Settles O44: which of a camera's two zones are valid decides its target, and the model's integer step from a gain
within 128 to 512 is the statement's step in naturals. -/
theorem gainMovesAnEighthOfTheWay : Obligations.GainMovesAnEighthOfTheWay := by
  unfold Obligations.GainMovesAnEighthOfTheWay
  intro c zs active staged hlow hhigh g own valid q moved z'
  have hvalid : ∀ z : Fin 4, valid z ↔ zoneValid c z zs[z] := fun z => (zoneValid_iff c z zs[z]).symm
  have hmoved : ∀ t : Nat, dampedGain active[c] t = moved t := dampedGain_eq_ite hlow hhigh
  rw [hvalid c, hvalid z']
  refine ⟨?neither, ?own, ?previous, ?both⟩
  case neither => exact updatedGain_of_neither active staged
  case own => exact fun hown hprev => (updatedGain_of_own active staged hown hprev).trans (hmoved (q c))
  case previous => exact fun hown hprev => (updatedGain_of_previous active staged hown hprev).trans (hmoved (q z'))
  case both =>
    exact fun hown hprev => (updatedGain_of_both active staged hown hprev).trans (hmoved ((q c + q z' + 1) / 2))

end Sys2Proof.Machine
end

section
/-! SNAPSHOT and IDENT (Section 9.4): their one outcome each, where the header, the camera blocks and the slot records of
a SNAPSHOT stand (Table 11-6), and the two statements that rest on them. -/

namespace Sys2Proof.Machine

/-! ### Fields and blocks of a run of bytes (R156) -/

/-- A 16-bit field carries the low 16 bits of its number. -/
theorem ofLe_le16_mod (n : Nat) : ofLe (le16 n) = n % 2 ^ 16 := by
  simp only [le16, byteOf, ofLe, BitVec.toNat_ofNat]
  omega

/-- A 32-bit field carries the low 32 bits of its number. -/
theorem ofLe_le32_mod (n : Nat) : ofLe (le32 n) = n % 2 ^ 32 := by
  simp only [le32, byteOf, ofLe, BitVec.toNat_ofNat]
  omega

theorem ofLe_le16_toNat (x : Half) : ofLe (le16 x.toNat) = x.toNat := ofLe_le16 _ x.isLt

theorem ofLe_le32_toNat (x : Word) : ofLe (le32 x.toNat) = x.toNat :=
  (ofLe_le32_mod _).trans (Nat.mod_eq_of_lt x.isLt)

theorem slice_append_right (as bs : List Byte) (i n : Nat) : slice (as ++ bs) (as.length + i) n = slice bs i n := by
  rw [slice, List.drop_length_add_append, slice]

/-- Entry k of a vector whose entries are blocks of one length, after a header. -/
theorem slice_header_block {α : Type} {m : Nat} (header : List Byte) (v : Vector α m) (f : α → List Byte) (w : Nat)
    (hw : ∀ a, (f a).length = w) (k : Fin m) :
    slice (header ++ v.toList.flatMap f) (header.length + w * k.val) w = f v[k] := by
  rw [slice_append_right, slice_flatMap_block f w hw _ _ (by simp), Vector.getElem_toList]
  rfl

theorem length_flatMap_block {α : Type} {m : Nat} (v : Vector α m) (f : α → List Byte) (w : Nat)
    (hw : ∀ a, (f a).length = w) : (v.toList.flatMap f).length = w * m := by
  simp [List.length_flatMap, hw, Nat.mul_comm]

/-! ### The layout of a SNAPSHOT (Tables 11-5 and 11-6) -/

theorem RingSlot.length_record (x : RingSlot) : x.record.length = 14 := by
  cases x <;> rfl

theorem Camera.length_block (c : Camera) : c.block.length = 63 := by
  rw [Camera.block, List.length_append, length_flatMap_block _ _ 14 RingSlot.length_record]
  rfl

theorem length_snapshotData (s : State) : (snapshotData s).length = 264 := by
  rw [snapshotData, List.length_append, length_flatMap_block _ _ 63 Camera.length_block]
  rfl

/-- Camera i's block of 63 bytes stands after the 12 bytes of the header and the blocks before it. -/
theorem slice_snapshotData_block (s : State) (i : Fin 4) :
    slice (snapshotData s) (12 + 63 * i.val) 63 = s.cams[i].block :=
  slice_header_block _ s.cams Camera.block 63 Camera.length_block i

/-- Slot k's record of 14 bytes stands after the 7 bytes of the camera's own fields and the records before it. -/
theorem Camera.slice_block_record (c : Camera) (k : Fin 4) : slice c.block (7 + 14 * k.val) 14 = c.slots[k].record :=
  slice_header_block _ c.slots RingSlot.record 14 RingSlot.length_record k

section cameraFields
variable (s : State) (i : Fin 4) {a j : Nat} (ha : a = 12 + 63 * i.val + j)
include ha

/-- A run of bytes inside camera i's block, read at its place `a` in the whole reply. -/
theorem slice_snapshotData (n : Nat) (h : j + n ≤ 63) : slice (snapshotData s) a n = slice s.cams[i].block j n := by
  rw [← slice_snapshotData_block, slice_slice _ _ _ _ _ h, ha]

theorem byteAt_snapshotData (h : j < 63) : byteAt (snapshotData s) a = byteAt s.cams[i].block j := by
  rw [← slice_snapshotData_block, byteAt_slice _ _ _ _ h, ha]

/-- A 16-bit field of camera i. -/
theorem ofLe_snapshotData (x : Half) (h : j + 2 ≤ 63) (hx : slice s.cams[i].block j 2 = le16 x.toNat) :
    ofLe (slice (snapshotData s) a 2) = x.toNat := by
  rw [slice_snapshotData s i ha 2 h, hx, ofLe_le16_toNat]

end cameraFields

/-! ### The outcomes (R143, R145) -/

theorem exec_ident_of_accepts (tag : Byte) (p : List Byte) (s : State) (h : s.Accepts) :
    exec (.ident tag p) s = .next (identBody tag p s) :=
  congrArg Host.Outcome.next (passGate_of_accepts 0x01#8 tag (identBody tag p) s h)

theorem exec_snapshot_of_accepts (tag : Byte) (p : List Byte) (s : State) (h : s.Accepts) :
    exec (.snapshot tag p) s = .next (snapshotBody tag p s) :=
  congrArg Host.Outcome.next (passGate_of_accepts 0x03#8 tag (snapshotBody tag p) s h)

theorem identBody_nil (tag : Byte) (s : State) : identBody tag [] s = s.answered 0x81#8 tag (0#8 :: identData) :=
  State.replyOk_eq_answered s 0x01#8 tag identData (by decide)

theorem snapshotBody_nil (tag : Byte) (s : State) :
    snapshotBody tag [] s = s.answered 0x83#8 tag (0#8 :: snapshotData s) :=
  State.replyOk_eq_answered s 0x03#8 tag (snapshotData s) (by decide)

/-- Settles O12: the reply's data are `snapshotData` of the state taken; the header's fields stand at fixed places, and a
camera's fields and slot records are read inside that camera's block. -/
theorem snapshotReportsOneState : Obligations.SnapshotReportsOneState := by
  unfold Obligations.SnapshotReportsOneState
  intro tag s hs
  refine ⟨snapshotData s, ?outcome, length_snapshotData s, ofLe_le32_toNat _, ofLe_le32_mod _, rfl, rfl,
    ofLe_le16_mod _, fun i => ?camera⟩
  case outcome => rw [exec_snapshot_of_accepts tag [] s hs, snapshotBody_nil]
  case camera =>
    refine ⟨?state, ?good, ?damage, ?skipped, ?lastDamage, fun k => ?slot⟩
    case state => exact byteAt_snapshotData s i (j := 0) (by omega) (by decide)
    case good => exact byteAt_snapshotData s i (j := 1) (by omega) (by decide)
    case damage => exact ofLe_snapshotData s i (j := 2) (by omega) _ (by decide) rfl
    case skipped => exact ofLe_snapshotData s i (j := 4) (by omega) _ (by decide) rfl
    case lastDamage => exact byteAt_snapshotData s i (j := 6) (by omega) (by decide)
    case slot =>
      rw [slice_snapshotData s i (j := 7 + 14 * k.val) (by omega) 14 (by omega), Camera.slice_block_record]
      cases s.cams[i].slots[k] <;> rfl

/-- Settles O10: IDENT's one outcome is the reply with `identData`, which are the statement's bytes in its order. -/
theorem identReportsTheCapacities : Obligations.IdentReportsTheCapacities := by
  unfold Obligations.IdentReportsTheCapacities
  intro tag s hs
  rw [exec_ident_of_accepts tag [] s hs, identBody_nil]
  rfl

end Sys2Proof.Machine
end

section
/-! START and SINGLE (Section 9.1): the outcomes by top state and by whether a height table is there, and their
statement. -/

namespace Sys2Proof.Machine

/-! ### A height table is there (R135) -/

theorem State.hasTable_eq_false_iff (s : State) :
    s.hasTable = false ↔ s.staged.table = none ∧ s.active.table = none := by
  rw [State.hasTable, Bool.or_eq_false_iff, Option.isSome_eq_false_iff, Option.isSome_eq_false_iff,
    Option.isNone_iff_eq_none, Option.isNone_iff_eq_none]

/-! ### The outcomes (R135, R136) -/

section startAndSingle
variable (tag : Byte) (s : State)

theorem exec_start_of_accepts (p : List Byte) (h : s.Accepts) : exec (.start tag p) s = .next (startBody tag p s) :=
  congrArg Host.Outcome.next (passGate_of_accepts 0x40#8 tag (startBody tag p) s h)

theorem exec_single_of_accepts (p : List Byte) (h : s.Accepts) : exec (.single tag p) s = .next (singleBody tag p s) :=
  congrArg Host.Outcome.next (passGate_of_accepts 0x42#8 tag (singleBody tag p) s h)

/-- The state check comes before the table check (R135, R150). -/
theorem startBody_of_started (h : s.top.state = .run ∨ s.top.state = .shot) :
    startBody tag [] s = s.refused 0x40#8 tag .state := by
  rw [startBody, if_neg (by simp), if_pos h]
  exact s.replyStatus_eq_refused _ _ _ (by decide)

theorem singleBody_of_run (h : s.top.state = .run) : singleBody tag [] s = s.refused 0x42#8 tag .state := by
  rw [singleBody, if_neg (by simp), h]
  exact s.replyStatus_eq_refused _ _ _ (by decide)

/-- In SHOT only the repeat flag can change (R136). -/
theorem singleBody_of_shot (h : s.top.state = .shot) : singleBody tag [] s =
    (if s.top.shotPending then s else s.setTop { s.top with repeatShot := true }).answered 0xC2#8 tag [0#8] := by
  rw [singleBody, if_neg (by simp), h]
  cases s.top.shotPending <;> exact State.replyOk_eq_answered _ _ _ _ (by decide)

variable (h : s.top.state = .idle ∨ s.top.state = .frozen)
include h

/-- Outside RUN and SHOT the table check alone decides START (R135). -/
theorem startBody_of_idle_or_frozen : startBody tag [] s =
    if s.hasTable = false then s.refused 0x40#8 tag .table
    else (s.leaveTo ⟨.run, false, false⟩).answered 0xC0#8 tag [0#8] := by
  have hstate : ¬ (s.top.state = .run ∨ s.top.state = .shot) := by
    rcases h with h | h <;> simp [h]
  rw [startBody, if_neg (by simp), if_neg hstate, State.replyStatus_eq_refused _ _ _ _ (by decide),
    State.replyOk_eq_answered _ _ _ _ (by decide)]
  rfl

/-- Outside RUN and SHOT the table check alone decides SINGLE (R136). -/
theorem singleBody_of_idle_or_frozen : singleBody tag [] s =
    if s.hasTable = false then s.refused 0x42#8 tag .table
    else (s.leaveTo ⟨.shot, true, false⟩).answered 0xC2#8 tag [0#8] := by
  rw [singleBody, if_neg (by simp), State.replyStatus_eq_refused _ _ _ _ (by decide),
    State.replyOk_eq_answered _ _ _ _ (by decide)]
  rcases h with h | h <;> rw [h] <;> rfl

end startAndSingle

/-- Settles O28: the top state picks the outcome, and in IDLE and FROZEN the table check picks between two. -/
theorem startAndSingleLeaveIdleOrFrozen : Obligations.StartAndSingleLeaveIdleOrFrozen := by
  unfold Obligations.StartAndSingleLeaveIdleOrFrozen
  intro tag s hs
  rw [exec_start_of_accepts tag s [] hs, exec_single_of_accepts tag s [] hs]
  refine ⟨fun hrun => ?run, fun hshot => ?shot, fun hidle => ⟨fun hstaged hactive => ?noTable, fun htable => ?table⟩⟩
  case run => rw [startBody_of_started tag s (.inl hrun), singleBody_of_run tag s hrun]; exact ⟨rfl, rfl⟩
  case shot => rw [startBody_of_started tag s (.inr hshot), singleBody_of_shot tag s hshot]; exact ⟨rfl, rfl⟩
  case noTable =>
    have hnone := s.hasTable_eq_false_iff.mpr ⟨hstaged, hactive⟩
    rw [startBody_of_idle_or_frozen tag s hidle, singleBody_of_idle_or_frozen tag s hidle, if_pos hnone, if_pos hnone]
    exact ⟨rfl, rfl⟩
  case table =>
    have hsome : ¬ s.hasTable = false := by
      rw [s.hasTable_eq_false_iff]
      exact fun ⟨hstaged, hactive⟩ => htable.elim (· hstaged) (· hactive)
    rw [startBody_of_idle_or_frozen tag s hidle, singleBody_of_idle_or_frozen tag s hidle, if_neg hsome, if_neg hsome]
    exact ⟨rfl, rfl⟩

end Sys2Proof.Machine
end

section
/-! NOTICE_MASK and the notices that it governs (Section 10.3): the request's two outcomes, the mask that both resets
leave, and the three fates of a handed notice. -/

namespace Sys2Proof.Machine

/-! ### The outcomes (R154) -/

section noticeMask
variable (tag m : Byte) (s : State)

theorem exec_noticeMask_of_accepts (p : List Byte) (h : s.Accepts) :
    exec (.noticeMask tag p) s = .next (noticeMaskBody tag p s) :=
  congrArg Host.Outcome.next (passGate_of_accepts 0x05#8 tag (noticeMaskBody tag p) s h)

/-- A set above 63 has bit 6 or bit 7, which name no notice; any other set fits the mask's six bits. -/
theorem noticeMaskBody_singleton : noticeMaskBody tag [m] s =
    if 63 < m.toNat then s.refused 0x05#8 tag .range
    else (s.setLink { s.link with mask := m.setWidth 6 }).answered 0x85#8 tag [0#8, m] := by
  have hset : u8At [m] 0 = m.toNat := rfl
  simp only [noticeMaskBody, hset, BitVec.ofNat_toNat]
  rw [if_neg (by simp), State.replyStatus_eq_refused _ _ _ _ (by decide),
    State.replyOk_eq_answered _ _ _ _ (by decide)]
  rfl

end noticeMask

/-! ### Both resets enable every kind (R154) -/

theorem pinReset_mask (s : State) : (pinReset s).link.mask = 0x3F#6 := rfl

theorem softReset_mask (s : State) : (softReset s).link.mask = 0x3F#6 := rfl

/-! ### The fates of a handed notice (R152) -/

section handedNotice
variable {s : State} {k : NoticeKind} (pl : List Byte)

theorem State.notice_of_masked (hmasked : s.link.mask.getLsbD k.bit = false) : s.notice k pl = s := by
  rw [s.notice_whole, s.notice_link, if_pos hmasked]
  rfl

variable (henabled : s.link.mask.getLsbD k.bit = true)
include henabled

/-- A notice leaves the last two of the sixteen places to replies that may be owed. -/
theorem State.notice_of_noRoom (hfull : 14 ≤ s.link.queue.length) :
    s.notice k pl = s.setLink { s.link with missed := true } := by
  rw [s.notice_whole, s.notice_link, if_neg (by simp [henabled]), if_pos hfull]

theorem State.notice_of_room (hroom : s.link.queue.length < 14) :
    s.notice k pl = s.setLink { s.link with queue := s.link.queue ++ [⟨k.code, 0#8, pl⟩] } := by
  rw [s.notice_whole, s.notice_link, if_neg (by simp [henabled]), if_neg (Nat.not_le.mpr hroom)]

end handedNotice

/-- Settles O14: the value of the set decides the request's outcome, and the mask bit and the occupancy of the queue
decide the notice's fate. -/
theorem noticeMaskDecidesWhichNoticesAreQueued : Obligations.NoticeMaskDecidesWhichNoticesAreQueued := by
  unfold Obligations.NoticeMaskDecidesWhichNoticesAreQueued
  intro tag m k pl s
  refine ⟨fun hs hset => ?accepted, fun hs hset => ?refused, pinReset_mask s, softReset_mask s,
    State.notice_of_masked pl, State.notice_of_noRoom pl, State.notice_of_room pl⟩
  case accepted =>
    rw [exec_noticeMask_of_accepts tag s [m] hs, noticeMaskBody_singleton, if_neg (Nat.not_lt.mpr hset)]
  case refused =>
    rw [exec_noticeMask_of_accepts tag s [m] hs, noticeMaskBody_singleton, if_pos hset]

end Sys2Proof.Machine
end

section
/-! The requests' one meaning: each request command is its KIND's owner behind the gate of the link (Sections 10.1, 10.2). -/

namespace Sys2Proof.Machine

/-- A request command is what a window with its message takes (R147 step 6, R150). -/
theorem exec_request {i : Instr} {kind tag : Byte} {p : List Byte} (h : i.request? = some (kind, tag, p)) (s : State) :
    exec i s = .next (takeRequest kind tag p s) := by
  cases i <;> cases h <;> rfl

end Sys2Proof.Machine
end

section
/-! The rotation of the output slots at a mark (Section 7.1): each slot's own outcome, and the statement that rests on
it. -/

namespace Sys2Proof.Machine

theorem any_toList_iff {α : Type} {n : Nat} (v : Vector α n) (p : α → Bool) :
    v.toList.any p = true ↔ ∃ k : Fin n, p v[k] = true := by
  simp only [List.any_eq_true, Vector.mem_toList_iff, Vector.mem_iff_getElem]
  constructor
  · rintro ⟨x, ⟨k, hk, rfl⟩, hx⟩
    exact ⟨⟨k, hk⟩, hx⟩
  · rintro ⟨k, hx⟩
    exact ⟨_, ⟨k.val, k.isLt, rfl⟩, hx⟩

/-- Step 1 of R116 moves every slot when one is PUBLISHED, and step 2 frees the SCANNING slot. -/
theorem Output.rotate_get (o : Output) (top : TopState) (k : Fin 3) :
    let x := if o.slots.toList.any OutSlot.isPublished = true then o.slots[k].rotate else o.slots[k]
    (o.rotate top).slots[k] = if top = .idle ∨ o.blank = true then x.unscan else x := by
  unfold Output.rotate
  dsimp only
  split <;> split <;> simp only [Fin.getElem_fin, Vector.getElem_map]

theorem Output.rotate_blank (o : Output) (top : TopState) : (o.rotate top).blank = false := by
  unfold Output.rotate
  dsimp only
  split
  · rfl
  · next h => exact Bool.eq_false_of_not_eq_true fun hb => h (.inr hb)

/-- A rotation changes no COMPOSING slot and makes none. -/
theorem Output.rotate_isComposing (o : Output) (top : TopState) (k : Fin 3) :
    (o.rotate top).slots[k].isComposing = o.slots[k].isComposing := by
  rw [Output.rotate_get]
  split <;> split <;> cases o.slots[k] <;> rfl

/-- A slot is SCANNING after the rotation when it was PUBLISHED, or was SCANNING with none PUBLISHED. -/
theorem Output.rotate_isScanning {o : Output} {top : TopState} {k : Fin 3}
    (h : (o.rotate top).slots[k].isScanning = true) : o.slots[k].isPublished = true ∨
      o.slots[k].isScanning = true ∧ ∀ j : Fin 3, o.slots[j].isPublished = false := by
  rw [Output.rotate_get] at h
  by_cases hany : o.slots.toList.any OutSlot.isPublished = true
  · rw [if_pos hany] at h
    left
    revert h
    split <;> cases o.slots[k] <;> simp [OutSlot.rotate, OutSlot.unscan, OutSlot.isScanning, OutSlot.isPublished]
  · rw [if_neg hany] at h
    have hnone : ∀ j : Fin 3, o.slots[j].isPublished = false := fun j =>
      Bool.eq_false_of_not_eq_true fun hj => hany ((any_toList_iff _ _).mpr ⟨j, hj⟩)
    refine .inr ⟨?_, hnone⟩
    revert h
    split <;> cases o.slots[k] <;> simp [OutSlot.unscan, OutSlot.isScanning]

/-- The rotation leaves no slot PUBLISHED. -/
theorem Output.rotate_isPublished (o : Output) (top : TopState) (k : Fin 3) :
    (o.rotate top).slots[k].isPublished = false := by
  rw [Output.rotate_get]
  by_cases hany : o.slots.toList.any OutSlot.isPublished = true
  · rw [if_pos hany]
    split <;> cases o.slots[k] <;> rfl
  · rw [if_neg hany]
    have hk : o.slots[k].isPublished = false :=
      Bool.eq_false_of_not_eq_true fun hk => hany ((any_toList_iff _ _).mpr ⟨k, hk⟩)
    revert hk
    split <;> cases o.slots[k] <;> exact fun h => h

/-- Settles O39: each slot's outcome is read from `Output.rotate_get`, by the state of the slot. -/
theorem rotationMovesPublishedToScanning : Obligations.RotationMovesPublishedToScanning := by
  unfold Obligations.RotationMovesPublishedToScanning
  intro o top k some' blanked
  have hget := o.rotate_get top k
  dsimp only at hget
  refine ⟨fun q hq => ?published, fun q hq => ?scanning, fun q hq => ?composing, fun hq => ?free, o.rotate_blank top⟩
  case published =>
    rw [hget, hq, if_pos ((any_toList_iff _ _).mpr ⟨k, by rw [hq]; rfl⟩)]
    rfl
  case scanning =>
    by_cases hsome : some'
    · have hfree : some' ∨ blanked := .inl hsome
      rw [hget, hq, if_pos ((any_toList_iff _ _).mpr hsome), if_pos hfree]
      exact ite_self _
    · rw [hget, hq, if_neg (mt (any_toList_iff _ _).mp hsome)]
      by_cases hblank : blanked
      · have hfree : some' ∨ blanked := .inr hblank
        rw [if_pos hblank, if_pos hfree]
        rfl
      · rw [if_neg hblank, if_neg (by simp [hsome, hblank])]
  case composing =>
    rw [hget, hq]
    split <;> split <;> rfl
  case free =>
    rw [hget, hq]
    split <;> split <;> rfl

end Sys2Proof.Machine
end

section
/-! What the laws of the memory, the parameter sets, the banks, the output slots and the counts speak of: each command
changes these facts by one of a few elementary effects, so a law that the effects keep is kept by every step. -/

namespace Sys2Proof.Machine

/-! ### The facts that these laws speak of -/

/-- All that the laws named speak of is the same in `s` and in `t`. -/
structure State.SameFacts (s t : State) : Prop where
  mem : t.mem = s.mem
  counter : t.timer.counter = s.timer.counter
  timing : t.timer.timing = s.timer.timing
  pendingTiming : t.timer.pendingTiming = s.timer.pendingTiming
  stagedTable : t.staged.table = s.staged.table
  stagedGains : t.staged.gains = s.staged.gains
  activeTable : t.active.table = s.active.table
  activeGains : t.active.gains = s.active.gains
  topState : t.top.state = s.top.state
  banks : t.banks = s.banks
  outSlots : t.out.slots = s.out.slots
  compState : t.comp.state = s.comp.state
  compSlot : t.comp.slot = s.comp.slot
  index : t.comp.index = s.comp.index
  fresh : t.comp.fresh = s.comp.fresh
  held : t.comp.held = s.comp.held
  filled : t.comp.filled = s.comp.filled
  history : t.comp.history = s.comp.history

namespace State.SameFacts

theorem refl (s : State) : s.SameFacts s := by constructor <;> rfl

theorem trans {s t u : State} (h : s.SameFacts t) (g : t.SameFacts u) : s.SameFacts u where
  mem := g.mem.trans h.mem
  counter := g.counter.trans h.counter
  timing := g.timing.trans h.timing
  pendingTiming := g.pendingTiming.trans h.pendingTiming
  stagedTable := g.stagedTable.trans h.stagedTable
  stagedGains := g.stagedGains.trans h.stagedGains
  activeTable := g.activeTable.trans h.activeTable
  activeGains := g.activeGains.trans h.activeGains
  topState := g.topState.trans h.topState
  banks := g.banks.trans h.banks
  outSlots := g.outSlots.trans h.outSlots
  compState := g.compState.trans h.compState
  compSlot := g.compSlot.trans h.compSlot
  index := g.index.trans h.index
  fresh := g.fresh.trans h.fresh
  held := g.held.trans h.held
  filled := g.filled.trans h.filled
  history := g.history.trans h.history

end State.SameFacts

/-- The elementary effects of the commands on these facts: what a law has to keep for every step to keep it. -/
structure EffectsKeep (P : State → Prop) : Prop where
  same : ∀ {s t : State}, s.SameFacts t → P s → P t
  pin : ∀ s, P s → P (pinReset s)
  soft : ∀ s, P s → P (softReset s)
  /-- A write burst lands (R129). -/
  write : ∀ s a bs, P s → P (s.setMem (Memory.writeRun s.mem a bs))
  /-- The cadence counter moves on (R68). -/
  count : ∀ s, P s → P (s.setTimer { s.timer with counter := s.timer.nextCounter })
  wrap : ∀ s, P s → P (s.setTimer s.timer.wrap)
  pendingTiming : ∀ s n, n.inRange = true → P s → P (s.setTimer { s.timer with pendingTiming := some n })
  /-- Staged gains: each new one is within the clamp or stands (R81, R112). -/
  gains : ∀ (s : State) (g : Vector Nat 4),
    (∀ i : Fin 4, (128 ≤ g[i] ∧ g[i] ≤ 512) ∨ g[i] = s.staged.gains[i]) → P s →
    P (s.setStaged { s.staged with gains := g })
  table : ∀ s es, tableValid s.banks.dir es = true → P s → P (s.setStaged { s.staged with table := some es })
  /-- START and SINGLE leave IDLE or FROZEN (R135, R136). -/
  leave : ∀ s t, s.hasTable = true → P s → P (s.setTop t)
  shot : ∀ s, s.top.state = .shot → P s → P (s.setTop s.top.completeShot)
  halt : ∀ s, P s → P s.haltTop
  bankOpen : ∀ (s : State) (b : Fin 8), s.banks.dir[b].check? = none → s.bankInUse b = false → P s →
    P (s.setBanks { s.banks with dir := s.banks.dir.set b .loading })
  bankClose : ∀ (s : State) (b : Fin 8) (c : Word), s.banks.dir[b] = .loading → P s →
    P (s.setBanks (Banks.takeHead
      { s.banks with dir := s.banks.dir.set b (.verifying c), queue := s.banks.queue ++ [b] }))
  /-- The verify engine's bytes grow (R31). -/
  verifying : ∀ s e bs, s.banks.engine = some e → P s →
    P (s.setBanks { s.banks with engine := some { e with bytes := bs } })
  /-- The verify engine's pass ends (R35). -/
  verified : ∀ (s : State) (e : Engine) (v : BankEntry), s.banks.engine = some e → v.check? = none → P s →
    P (s.setBanks (Banks.takeHead { dir := s.banks.dir.set e.bank v, queue := s.banks.queue.tail, engine := none }))
  /-- The output slots rotate at a mark (R116). -/
  rotate : ∀ s, P s → P (s.setOut { s.out with slots := (s.out.rotate s.top.state).slots })
  /-- A composition starts after the rotation, which leaves no PUBLISHED slot (R68, R84). -/
  compose : ∀ (s : State) (k : Fin 3), s.comp.state = .idle → s.out.lowestFree = some k →
    s.staged.table.isSome = true → (∀ j : Fin 3, s.out.slots[j].isPublished = false) → P s → P (compositionOpen k s)
  wait : ∀ s, s.comp.state = .issuing → P s → P (s.setComp { s.comp with state := .waiting })
  resume : ∀ s, s.comp.state = .waiting → P s → P (s.setComp { s.comp with state := .issuing })
  issue : ∀ s, P s → P (s.setComp s.comp.issue)
  abandon : ∀ s, s.comp.composing = true → P s → P (s.setComp { s.comp with state := .abandoning })
  abandonEnd : ∀ s, s.comp.state = .abandoning → P s → P (abandonEnd s)
  frameComplete : ∀ s, s.comp.state = .draining → P s → P (frameComplete s)

/-! ### What leaves the facts alone -/

namespace State.SameFacts
variable {s t : State}

theorem setLink (l : Link) (h : s.SameFacts t) : s.SameFacts (t.setLink l) :=
  h.trans (by constructor <;> rfl)

theorem notice (k : NoticeKind) (p : List Byte) (h : s.SameFacts t) : s.SameFacts (t.notice k p) :=
  h.trans (by constructor <;> simp)

theorem arbitrate (h : s.SameFacts t) : s.SameFacts (arbitrate t) :=
  h.trans (by constructor <;> simp)

theorem resumeFill (h : s.SameFacts t) : s.SameFacts (resumeFill t) :=
  h.trans (by constructor <;> simp)

theorem setCam (i : Fin 4) (c : Camera) (h : s.SameFacts t) : s.SameFacts (t.setCam i c) :=
  h.trans (by constructor <;> rfl)

theorem setCams (c : Vector Camera 4) (h : s.SameFacts t) : s.SameFacts (t.setCams c) :=
  h.trans (by constructor <;> rfl)

theorem setSlot (j : Option Job) (h : s.SameFacts t) : s.SameFacts (t.setSlot j) :=
  h.trans (by constructor <;> rfl)

theorem setStopOwed (v : Option Byte) (h : s.SameFacts t) : s.SameFacts (t.setStopOwed v) :=
  h.trans (by constructor <;> rfl)

theorem setMemStart (m : MemStart) (h : s.SameFacts t) : s.SameFacts (t.setMemStart m) :=
  h.trans (by constructor <;> rfl)

theorem setZones (z : Vector Zone 4) (h : s.SameFacts t) : s.SameFacts (t.setZones z) :=
  h.trans (by constructor <;> rfl)

theorem setArb (a : Arbiter) (h : s.SameFacts t) : s.SameFacts (t.setArb a) :=
  h.trans (by constructor <;> rfl)

end State.SameFacts

end Sys2Proof.Machine
end

section
/-! Each command's effect on the facts of `State.SameFacts` is a chain of the elementary effects. -/

namespace Sys2Proof.Machine

/-! ### Commands that leave the facts alone -/

section requests
variable (tag : Byte) (p : List Byte) (s : State)

theorem camSetupBody_sameFacts : s.SameFacts (camSetupBody tag p s) := by
  unfold camSetupBody
  dsimp only
  repeat' split
  all_goals constructor <;> rfl

theorem camOnBody_sameFacts : s.SameFacts (camOnBody tag p s) := by
  unfold camOnBody
  dsimp only
  repeat' split
  all_goals constructor <;> rfl

theorem camOffBody_sameFacts : s.SameFacts (camOffBody tag p s) := by
  unfold camOffBody
  dsimp only
  repeat' split
  all_goals constructor <;> rfl

theorem bankWriteBody_sameFacts : s.SameFacts (bankWriteBody tag p s) := by
  unfold bankWriteBody
  dsimp only
  repeat' split
  all_goals constructor <;> simp

theorem bankReadBody_sameFacts : s.SameFacts (bankReadBody tag p s) := by
  unfold bankReadBody
  dsimp only
  repeat' split
  all_goals constructor <;> simp

theorem bodyWriteBody_sameFacts : s.SameFacts (bodyWriteBody tag p s) := by
  unfold bodyWriteBody
  repeat' split
  all_goals constructor <;> simp

theorem heightBody_sameFacts : s.SameFacts (heightBody tag p s) := by
  unfold heightBody
  split <;> constructor <;> rfl

theorem doorsBody_sameFacts : s.SameFacts (doorsBody tag p s) := by
  unfold doorsBody
  repeat' split
  all_goals constructor <;> rfl

theorem excludeBody_sameFacts : s.SameFacts (excludeBody tag p s) := by
  unfold excludeBody
  repeat' split
  all_goals constructor <;> rfl

end requests

section events
variable (i : Fin 4) (s : State)

theorem dramInOperation_sameFacts : s.SameFacts (dramInOperation s) := by
  unfold dramInOperation
  split
  · exact .resumeFill (.setMemStart _ (.refl s))
  · exact .refl s

theorem frameStartEvent_sameFacts : s.SameFacts (frameStartEvent i s) := by
  unfold frameStartEvent
  dsimp only
  split
  · exact .refl s
  · exact .setCam _ _ (.notice _ _ (.setCam _ _ (.refl s)))
  · exact .setCam _ _ (.refl s)
  · exact .setCam _ _ (.refl s)

theorem lineEvent_sameFacts (bytes : List Byte) : s.SameFacts (lineEvent i bytes s) := by
  unfold lineEvent
  split
  · exact .refl s
  · exact .arbitrate (.setCam _ _ (.refl s))

theorem frameEndEvent_sameFacts : s.SameFacts (frameEndEvent i s) := by
  have ended := State.SameFacts.setCam i (s.cams[i].endFrame s.timer.timebase) (.refl s)
  unfold frameEndEvent
  dsimp only
  split
  · exact .refl s
  split
  · exact .notice _ _ ended
  · exact ended

theorem lossTimerExpiryEvent_sameFacts : s.SameFacts (lossTimerExpiryEvent i s) := by
  unfold lossTimerExpiryEvent
  split
  · exact .notice _ _ (.setCam _ _ (.refl s))
  · exact .refl s

theorem Output.refill_slots (o : Output) : o.refill.slots = o.slots := by
  unfold Output.refill
  split <;> rfl

theorem State.SameFacts.setOut {s t : State} {o : Output} (ho : o.slots = t.out.slots) (h : s.SameFacts t) :
    s.SameFacts (t.setOut o) :=
  h.trans { State.SameFacts.refl t with outSlots := ho }

theorem lineTimeEndEvent_sameFacts : s.SameFacts (lineTimeEndEvent s) := by
  unfold lineTimeEndEvent
  split
  · exact .arbitrate (.setOut (Output.refill_slots _) (.refl s))
  · exact .refl s

theorem lineUnderrunEvent_sameFacts : s.SameFacts (lineUnderrunEvent s) := by
  have dropped : s.SameFacts (s.setOut s.out.dropLine) := .setOut (Output.refill_slots _) (.refl s)
  unfold lineUnderrunEvent
  split
  · split
    · dsimp only
      split
      · exact .arbitrate dropped
      · exact .arbitrate (.notice _ _ (.setOut rfl dropped))
    · exact .refl s
  · exact .refl s

end events

theorem markDisplay_out_slots (s : State) : (markDisplay s).out.slots = (s.out.rotate s.top.state).slots :=
  Output.refill_slots _

theorem markDisplay_isPublished (s : State) (j : Fin 3) : (markDisplay s).out.slots[j].isPublished = false := by
  rw [markDisplay_out_slots]
  exact Output.rotate_isPublished _ _ j

/-- What the laws speak of in the composer. -/
structure Composer.SameCounts (c d : Composer) : Prop where
  state : d.state = c.state
  slot : d.slot = c.slot
  index : d.index = c.index
  fresh : d.fresh = c.fresh
  held : d.held = c.held
  filled : d.filled = c.filled
  history : d.history = c.history

theorem State.SameFacts.setComp {s t : State} {c : Composer} (hc : t.comp.SameCounts c) (h : s.SameFacts t) :
    s.SameFacts (t.setComp c) :=
  h.trans ⟨rfl, rfl, rfl, rfl, rfl, rfl, rfl, rfl, rfl, rfl, rfl, hc.state, hc.slot, hc.index, hc.fresh, hc.held,
    hc.filled, hc.history⟩

theorem Composer.toStore_sameCounts (c : Composer) : c.SameCounts c.toStore :=
  ⟨c.toStore_issued.state, c.toStore_same.slot, c.toStore_issued.index, c.toStore_issued.fresh, c.toStore_issued.held,
    c.toStore_issued.filled, c.toStore_same.history⟩

theorem Composer.toSample_sameCounts (c : Composer) (p : Params) : c.SameCounts (c.toSample p) :=
  ⟨(c.toSample_issued p).state, (c.toSample_same p).slot, (c.toSample_issued p).index, (c.toSample_issued p).fresh,
    (c.toSample_issued p).held, (c.toSample_issued p).filled, (c.toSample_same p).history⟩

/-- R81's clamp. -/
theorem gainsOf_range (p : List Byte) (i : Fin 4) : 128 ≤ (gainsOf p)[i] ∧ (gainsOf p)[i] ≤ 512 := by
  have clamped : ∀ n, 128 ≤ clampNat 128 512 n ∧ clampNat 128 512 n ≤ 512 := fun n => by
    unfold clampNat
    omega
  fin_cases i <;> exact clamped _

/-- No outcome of a verification leaves the bank VERIFYING (R35). -/
theorem verdict_check? (check : Word) (bytes : List Byte) : (verdict check bytes).1.check? = none := by
  unfold verdict
  repeat' split
  all_goals rfl

variable {P : State → Prop}

namespace EffectsKeep

/-- The pipeline's moves: only an issue changes the facts (R94). -/
theorem advance (K : EffectsKeep P) (s : State) (c : Composer) (p : Params) (h : P (s.setComp c)) :
    P (s.setComp (c.advance p)) :=
  Composer.advance_keeps (fun d => P (s.setComp d)) p
    (fun d hd => K.same (.setComp (t := s.setComp d) d.toStore_sameCounts (.refl _)) hd)
    (fun d hd => K.same (.setComp (t := s.setComp d) (d.toSample_sameCounts p) (.refl _)) hd)
    (fun d hd => K.issue (s.setComp d) hd) c h

/-! ### Requests -/

section requests
variable (K : EffectsKeep P) (tag : Byte) (p : List Byte) (s : State) (h : P s)
include K h

theorem setLink (l : Link) : P (s.setLink l) := K.same (.setLink l (.refl s)) h

theorem outSetupBody : P (outSetupBody tag p s) := by
  unfold Machine.outSetupBody
  split
  · exact K.setLink s h _
  split
  · exact K.setLink s h _
  split
  · exact K.setLink s h _
  · next hrange =>
    have inRange : (timingOf p).inRange = true := by
      simp only [not_or, Bool.not_eq_false] at hrange
      exact hrange.1
    refine K.same ?_ (K.pendingTiming s _ inRange h)
    constructor <;> rfl

theorem bankOpenBody : P (bankOpenBody tag p s) := by
  unfold Machine.bankOpenBody
  dsimp only
  split
  · exact K.setLink s h _
  split
  · exact K.setLink s h _
  split
  · exact K.setLink s h _
  · next hfree =>
    obtain ⟨hcheck, hunlisted⟩ := not_or.mp hfree
    exact K.same (.arbitrate (.setSlot _ (.refl _)))
      (K.bankOpen s _ (Option.not_isSome_iff_eq_none.mp hcheck) (Bool.eq_false_of_not_eq_true hunlisted) h)

theorem bankCloseBody : P (bankCloseBody tag p s) := by
  unfold Machine.bankCloseBody
  dsimp only
  split
  · exact K.setLink s h _
  split
  · exact K.setLink s h _
  split
  · exact K.setLink s h _
  · next hloading =>
    exact K.same (.arbitrate (.setLink _ (.refl _))) (K.bankClose s _ _ (not_not.mp hloading) h)

theorem heightTableBody : P (heightTableBody tag p s) := by
  unfold Machine.heightTableBody
  split
  · exact K.setLink s h _
  split
  · exact K.setLink s h _
  split
  · exact K.setLink s h _
  · next hvalid => exact K.setLink _ (K.table s _ (Bool.eq_true_of_not_eq_false hvalid) h) _

theorem gainsBody : P (gainsBody tag p s) := by
  unfold Machine.gainsBody
  split
  · exact K.setLink s h _
  split
  · exact K.setLink s h _
  · refine K.same ?_ (K.gains s (gainsOf p) (fun i => .inl (gainsOf_range p i)) h)
    constructor <;> rfl

/-- Leaving IDLE or FROZEN with a table to show (R135, R136). -/
theorem leaveTo (hs : s.hasTable = true) (t : Top) : P (s.leaveTo t) :=
  K.same (.setComp ⟨rfl, rfl, rfl, rfl, rfl, rfl, rfl⟩ (.refl _)) (K.leave s t hs h)

theorem startBody : P (startBody tag p s) := by
  unfold Machine.startBody
  split
  · exact K.setLink s h _
  split
  · exact K.setLink s h _
  split
  · exact K.setLink s h _
  · next htable => exact K.setLink _ (K.leaveTo s h (Bool.eq_true_of_not_eq_false htable) _) _

theorem singleBody : P (singleBody tag p s) := by
  unfold Machine.singleBody
  split
  · exact K.setLink s h _
  split
  · exact K.setLink s h _
  · split
    · exact K.setLink s h _
    · refine K.same ?_ h
      constructor <;> rfl
  · split
    · exact K.setLink s h _
    · next htable => exact K.setLink _ (K.leaveTo s h (Bool.eq_true_of_not_eq_false htable) _) _

theorem settleEnd : P (settleEnd s) := by
  unfold Machine.settleEnd
  split
  · split
    · next hdraining => exact K.frameComplete s hdraining h
    · next habandoning => exact K.abandonEnd s habandoning h
    · exact h
  · exact h

theorem abandonBegin (hs : s.comp.composing = true) : P (abandonBegin s) := by
  refine K.same ?_ (K.abandon s hs h)
  unfold Machine.abandonBegin
  rw [cancelPoints_whole]
  constructor <;> rfl

theorem stopBody : P (stopBody tag p s) := by
  unfold Machine.stopBody
  split
  · exact K.setLink s h _
  split
  · exact K.setLink s h _
  split
  · next hcomposing =>
    have halted : P (s.haltTop.setStopOwed (some tag)) := K.same (.setStopOwed _ (.refl _)) (K.halt s h)
    exact K.settleEnd _ (K.abandonBegin _ halted hcomposing)
  · exact K.setLink _ (K.halt s h) _

end requests

/-! ### Events -/

section events
variable (K : EffectsKeep P) (s : State) (h : P s)
include K h

/-- A selection changes a port, the armed points and the entries; it may end a wait (R74, R89). -/
theorem selectCamera (i : Fin 4) : P (selectCamera i s) := by
  have selected : P (((s.setCam i (s.cams[i].selected i s.active s.timer.timebase)).setTimer
      { s.timer with armed := s.timer.armed.set i false }).setComp
        { s.comp with selection := s.comp.selection.set i (s.cams[i].answer i s.active s.timer.timebase) }) := by
    refine K.same ?_ h
    constructor <;> rfl
  unfold Machine.selectCamera
  dsimp only
  rcases Composer.resume_cases
    { s.comp with selection := s.comp.selection.set i (s.cams[i].answer i s.active s.timer.timebase) } with
    e | ⟨hwaiting, e⟩ <;> rw [e]
  · exact selected
  · have resumed := K.resume _ (by exact hwaiting) selected
    exact resumed

theorem selectionEvent (i : Fin 4) : P (selectionEvent i s) := by
  unfold Machine.selectionEvent
  split
  · exact K.selectCamera s h i
  · exact h

theorem compositionStart {k : Fin 3} (hidle : s.comp.state = .idle) (hfree : s.out.lowestFree = some k)
    (htable : s.staged.table.isSome = true) (hrotated : ∀ j : Fin 3, s.out.slots[j].isPublished = false) :
    P (compositionStart k s) :=
  compositionStart_cases k s P (K.compose s k hidle hfree htable hrotated h) fun i t ht => K.selectCamera t ht i

theorem missedMark : P (missedMark s) := by
  refine K.same ?_ h
  unfold Machine.missedMark
  dsimp only
  split
  · constructor <;> rfl
  · refine .notice _ _ ?_
    constructor <;> rfl

theorem settleMark (hrotated : ∀ j : Fin 3, s.out.slots[j].isPublished = false) {t : State}
    (e : settleMark s = .next t) : P t := by
  unfold Machine.settleMark at e
  split at e
  · split at e
    · next hidle =>
      split at e
      · exact nomatch e
      · exact nomatch e
      · next k es hfree htable =>
        cases e
        exact K.same (.arbitrate (.refl _)) (K.compositionStart s h hidle hfree (by rw [htable]; rfl) hrotated)
    · cases e
      exact K.same (.arbitrate (.refl _)) (K.missedMark s h)
  · cases e
    refine K.same (.arbitrate ?_) h
    constructor <;> rfl

theorem markDisplay : P (markDisplay s) := by
  refine K.same ?_ (K.rotate s h)
  constructor
  case outSlots => exact markDisplay_out_slots s
  all_goals rfl

theorem tileDecision {t : State} (e : tileDecision s = .next t) : P t := by
  unfold Machine.tileDecision at e
  dsimp only at e
  split at e
  · next hissuing =>
    split at e
    · split at e <;> cases e
      refine K.same (.arbitrate (.refl _)) ?_
      unfold Composer.decideTile
      split
      · exact K.wait s hissuing.1 h
      · refine K.advance s _ _ (K.same (.setComp ?_ (.refl s)) h)
        constructor <;> rfl
    · cases e
      exact h
  · cases e
    exact h

theorem sampleArithmeticDone : P (sampleArithmeticDone s) := by
  unfold Machine.sampleArithmeticDone
  split
  · refine K.same (.arbitrate (.setZones _ (.refl _))) (K.advance s _ _ (K.same (.setComp ?_ (.refl s)) h))
    constructor <;> rfl
  · exact h

theorem tick : P (tick s) := by
  unfold Machine.tick
  split
  · exact h
  · refine K.same ?_ (K.count s h)
    constructor <;> rfl

end events

/-! ### A completed burst -/

section bursts
variable (K : EffectsKeep P) (s : State) (h : P s)
include K h

theorem storeBurstDone (n : Nat) : P (storeBurstDone n s) := by
  unfold Machine.storeBurstDone
  split
  · exact h
  · refine K.settleEnd _ (K.advance s _ _ (K.same (.setComp ?_ (.refl s)) h))
    split <;> constructor <;> rfl

theorem sampleBurstDone (read : List Byte) : P (sampleBurstDone read s) := by
  refine K.same ?_ h
  unfold Machine.sampleBurstDone
  split <;> constructor <;> rfl

theorem fetchBurstDone (read : List Byte) : P (fetchBurstDone read s) := by
  unfold Machine.fetchBurstDone
  split
  · refine K.advance s _ _ (K.same (.setComp ?_ (.refl s)) h)
    constructor <;> rfl
  · exact h

theorem verifyBurstDone (read : List Byte) : P (verifyBurstDone read s) := by
  unfold Machine.verifyBurstDone
  split
  · exact h
  · next e he =>
    dsimp only
    split
    · exact K.same (.notice _ _ (.refl _)) (K.verified s e _ he (verdict_check? _ _) h)
    · exact K.verifying s e _ he h

theorem jobBurstDone (n : Nat) (read : List Byte) : P (jobBurstDone n read s) := by
  refine K.same ?_ h
  unfold Machine.jobBurstDone
  dsimp only
  split
  · exact .refl s
  split
  · exact .setLink _ (.setSlot _ (.refl s))
  · exact .setSlot _ (.refl s)

theorem fillBurstDone : P (fillBurstDone s) := by
  refine K.same ?_ h
  unfold Machine.fillBurstDone
  split
  · split
    · exact .setLink _ (.setMemStart _ (.refl s))
    · exact .setMemStart _ (.refl s)
  · exact .refl s

theorem creditBurst (b : Burst) (read : List Byte) : P (creditBurst b read s) := by
  unfold Machine.creditBurst
  cases b.client with
  | scan line => exact K.same (.setOut (Output.refill_slots _) (.refl s)) h
  | camera i => exact K.same (.setCam _ _ (.refl s)) h
  | store => exact K.storeBurstDone s h _
  | sample => exact K.sampleBurstDone s h _
  | fetch => exact K.fetchBurstDone s h _
  | tileMap m => exact K.same (.setComp ⟨rfl, rfl, rfl, rfl, rfl, rfl, rfl⟩ (.refl s)) h
  | job => exact K.jobBurstDone s h _ _
  | verify => exact K.verifyBurstDone s h _
  | bodyFill => exact K.fillBurstDone s h

theorem landBurst (b : Burst) : P (landBurst b s) := by
  unfold Machine.landBurst
  dsimp only
  split
  · next bytes _ =>
    refine K.same ?_ (K.write s b.addr bytes h)
    constructor <;> rfl
  · exact K.same (.setArb _ (.refl s)) h

theorem burstComplete : P (burstComplete s) := by
  unfold Machine.burstComplete
  split
  · exact h
  · next b _ =>
    have landed := K.landBurst s h b
    dsimp only
    split
    · exact landed
    · refine K.same (.arbitrate (.resumeFill (.refl _))) ?_
      split
      · exact K.creditBurst _ landed b _
      · exact landed

end bursts

/-! ### Every step -/

theorem closed (K : EffectsKeep P) : Closed P where
  link s l h := K.setLink s h l
  pending s l h := K.same (by constructor <;> rfl) h
  asserted s b h := K.same (by constructor <;> rfl) h
  pin := K.pin
  soft := K.soft
  dram s h := K.same (dramInOperation_sameFacts s) h
  camSetup tag p s h := K.same (camSetupBody_sameFacts tag p s) h
  camOn tag p s h := K.same (camOnBody_sameFacts tag p s) h
  camOff tag p s h := K.same (camOffBody_sameFacts tag p s) h
  outSetup := K.outSetupBody
  bankOpen := K.bankOpenBody
  bankWrite tag p s h := K.same (bankWriteBody_sameFacts tag p s) h
  bankClose := K.bankCloseBody
  bankRead tag p s h := K.same (bankReadBody_sameFacts tag p s) h
  bodyWrite tag p s h := K.same (bodyWriteBody_sameFacts tag p s) h
  heightTable := K.heightTableBody
  height tag p s h := K.same (heightBody_sameFacts tag p s) h
  doors tag p s h := K.same (doorsBody_sameFacts tag p s) h
  exclude tag p s h := K.same (excludeBody_sameFacts tag p s) h
  gains := K.gainsBody
  start := K.startBody
  stop := K.stopBody
  single := K.singleBody
  frameStart i s h := K.same (frameStartEvent_sameFacts i s) h
  line i b s h := K.same (lineEvent_sameFacts i s b) h
  frameEnd i s h := K.same (frameEndEvent_sameFacts i s) h
  loss i s h := K.same (lossTimerExpiryEvent_sameFacts i s) h
  mark s _ h e := K.settleMark _ (K.markDisplay _ (K.wrap s h)) (markDisplay_isPublished _) e
  sel i s h := K.selectionEvent s h i
  tile s _ h e := K.tileDecision s h e
  sample s h := K.sampleArithmeticDone s h
  burst s h := K.burstComplete s h
  lineEnd s h := K.same (lineTimeEndEvent_sameFacts s) h
  under s h := K.same (lineUnderrunEvent_sameFacts s) h
  tick s h := K.tick s h

end EffectsKeep

end Sys2Proof.Machine
end

section
/-! The DRAM's canonical form, the ranges of gains and timings, and the treatment counts (Sections 4, 5 and 8): the
effects that touch each, and the statements that every step keeps them. -/

namespace Sys2Proof.Machine

/-! ### The DRAM (R127, R129) -/

theorem memoryLaw_of_mem {s t : State} (e : t.mem = s.mem) (h : s.MemoryLaw) : t.MemoryLaw := by
  rw [State.MemoryLaw, e]
  exact h

theorem memoryLaw_effects : EffectsKeep State.MemoryLaw where
  same g h := memoryLaw_of_mem g.mem h
  pin _ h := memoryLaw_of_mem rfl h
  soft _ h := memoryLaw_of_mem rfl h
  write s a bs h := Memory.wf_writeRun bs s.mem a h
  count _ h := memoryLaw_of_mem rfl h
  wrap _ h := memoryLaw_of_mem rfl h
  pendingTiming _ _ _ h := memoryLaw_of_mem rfl h
  gains _ _ _ h := memoryLaw_of_mem rfl h
  table _ _ _ h := memoryLaw_of_mem rfl h
  leave _ _ _ h := memoryLaw_of_mem rfl h
  shot _ _ h := memoryLaw_of_mem rfl h
  halt _ h := memoryLaw_of_mem rfl h
  bankOpen _ _ _ _ h := memoryLaw_of_mem rfl h
  bankClose _ _ _ _ h := memoryLaw_of_mem rfl h
  verifying _ _ _ _ h := memoryLaw_of_mem rfl h
  verified _ _ _ _ _ h := memoryLaw_of_mem rfl h
  rotate _ h := memoryLaw_of_mem rfl h
  compose s k _ _ _ _ h := memoryLaw_of_mem (compositionOpen_mem k s) h
  wait _ _ h := memoryLaw_of_mem rfl h
  resume _ _ h := memoryLaw_of_mem rfl h
  issue _ h := memoryLaw_of_mem rfl h
  abandon _ _ h := memoryLaw_of_mem rfl h
  abandonEnd s _ h := memoryLaw_of_mem (abandonEnd_mem s) h
  frameComplete s _ h := memoryLaw_of_mem (frameComplete_mem s) h

/-- Settles O49: a landing write burst is the one effect on the DRAM, and a run of writes keeps the form. -/
theorem everyStepKeepsTheMemoryCanonical : Obligations.EveryStepKeepsTheMemoryCanonical := by
  unfold Obligations.EveryStepKeepsTheMemoryCanonical
  exact memoryLaw_effects.closed.step

/-! ### Gains (R76, R81, R112) -/

theorem State.GainLaw.of_gains {s t : State} (h : s.GainLaw) (hs : t.staged.gains = s.staged.gains)
    (ha : t.active.gains = s.active.gains) : t.GainLaw :=
  ⟨by rw [hs]; exact h.staged, by rw [ha]; exact h.active⟩

theorem gainLaw_of_reset {s : State} (hs : s.staged = State.reset.staged) (ha : s.active = State.reset.active) :
    s.GainLaw := by
  have reset_range : ∀ i : Fin 4, 128 ≤ State.reset.staged.gains[i] ∧ State.reset.staged.gains[i] ≤ 512 := by decide
  constructor
  · rw [hs]; exact reset_range
  · rw [ha]; exact reset_range

/-- R112 clamps the new gain. -/
theorem dampedGain_range (gain target : Nat) : 128 ≤ dampedGain gain target ∧ dampedGain gain target ≤ 512 := by
  unfold dampedGain clampInt
  omega

theorem updatedGain_range (c : Fin 4) (zs : Vector Zone 4) (active staged : Vector Nat 4) :
    (128 ≤ updatedGain c zs active staged ∧ updatedGain c zs active staged ≤ 512) ∨
      updatedGain c zs active staged = staged[c] := by
  unfold updatedGain
  split
  · exact .inr rfl
  · exact .inl (dampedGain_range _ _)

theorem gains_gainLaw (s : State) (g : Vector Nat 4)
    (hg : ∀ i : Fin 4, (128 ≤ g[i] ∧ g[i] ≤ 512) ∨ g[i] = s.staged.gains[i]) (h : s.GainLaw) :
    (s.setStaged { s.staged with gains := g }).GainLaw where
  staged i := by
    change 128 ≤ g[i] ∧ g[i] ≤ 512
    rcases hg i with hi | hi
    · exact hi
    · rw [hi]; exact h.staged i
  active := h.active

theorem gainUpdate_gainLaw (s : State) (h : s.GainLaw) : (gainUpdate s).GainLaw := by
  unfold gainUpdate
  split
  · exact h
  · refine gains_gainLaw s _ (fun i => ?_) h
    rw [Fin.getElem_fin, Vector.getElem_ofFn]
    exact updatedGain_range i _ _ _

/-- Frame complete hands the staged set to the gain update and to nothing else (R97). -/
theorem frameComplete_staged_gains (s : State) : (frameComplete s).staged.gains = (gainUpdate s).staged.gains := by
  have zones : ∀ t : State, t.zones = s.zones → t.active = s.active → t.staged = s.staged →
      (gainUpdate t).staged.gains = (gainUpdate s).staged.gains := by
    intro t hz ha hs
    unfold gainUpdate
    rw [ha]
    split
    · rw [hs]
    · simp [hz, hs]
  unfold frameComplete
  dsimp only
  rw [State.setComp_staged, settleShot_staged, settleCoverage_staged]
  exact zones _ (by simp) (by simp) (by simp)

theorem gainLaw_effects : EffectsKeep State.GainLaw where
  same g h := h.of_gains g.stagedGains g.activeGains
  pin _ _ := gainLaw_of_reset rfl rfl
  soft _ _ := gainLaw_of_reset rfl rfl
  write _ _ _ h := h.of_gains rfl rfl
  count _ h := h.of_gains rfl rfl
  wrap _ h := h.of_gains rfl rfl
  pendingTiming _ _ _ h := h.of_gains rfl rfl
  gains := gains_gainLaw
  table _ _ _ h := h.of_gains rfl rfl
  leave _ _ _ h := h.of_gains rfl rfl
  shot _ _ h := h.of_gains rfl rfl
  halt _ h := h.of_gains rfl rfl
  bankOpen _ _ _ _ h := h.of_gains rfl rfl
  bankClose _ _ _ _ h := h.of_gains rfl rfl
  verifying _ _ _ _ h := h.of_gains rfl rfl
  verified _ _ _ _ _ h := h.of_gains rfl rfl
  rotate _ h := h.of_gains rfl rfl
  compose _ _ _ _ _ _ h := ⟨h.staged, h.staged⟩
  wait _ _ h := h.of_gains rfl rfl
  resume _ _ h := h.of_gains rfl rfl
  issue _ h := h.of_gains rfl rfl
  abandon _ _ h := h.of_gains rfl rfl
  abandonEnd s _ h := h.of_gains (by rw [abandonEnd_staged]) (by rw [abandonEnd_active])
  frameComplete s _ h := (gainUpdate_gainLaw s h).of_gains (frameComplete_staged_gains s)
    (by rw [frameComplete_active, gainUpdate_active])

/-! ### The cadence counter and the timings (R68, R69) -/

theorem State.CadenceLaw.of_timer {s t : State} (h : s.CadenceLaw) (hc : t.timer.counter = s.timer.counter)
    (ht : t.timer.timing = s.timer.timing) (hp : t.timer.pendingTiming = s.timer.pendingTiming) : t.CadenceLaw :=
  ⟨by rw [hc, ht]; exact h.counter, by rw [ht]; exact h.timing, by rw [hp]; exact h.pending⟩

theorem cadenceLaw_of_reset {s : State} (h : s.timer = State.reset.timer) : s.CadenceLaw := by
  have offsets : ∀ i : Fin 4, State.reset.timer.timing.offsets[i] < State.reset.timer.timing.period := by decide
  refine ⟨?_, ?_, ?_⟩ <;> rw [h]
  · decide
  · exact ⟨by decide, by decide, offsets⟩
  · exact nofun

/-- OUT_SETUP's range test is the law of a timing (R69). -/
theorem Timing.law_of_inRange (n : Timing) (h : n.inRange = true) : n.law := by
  simp only [Timing.inRange, Bool.and_eq_true, decide_eq_true_eq, List.all_eq_true, Vector.mem_toList_iff] at h
  obtain ⟨⟨hlow, hhigh⟩, hoffsets⟩ := h
  exact ⟨hlow, hhigh, fun i => hoffsets _ (by simp [Fin.getElem_fin])⟩

theorem count_cadenceLaw (s : State) (h : s.CadenceLaw) :
    (s.setTimer { s.timer with counter := s.timer.nextCounter }).CadenceLaw where
  counter := by
    change s.timer.nextCounter < s.timer.timing.period
    have hcounter := h.counter
    unfold Timer.nextCounter
    split <;> omega
  timing := h.timing
  pending := h.pending

theorem Timing.law.period_pos {n : Timing} (h : n.law) : 0 < n.period := by
  obtain ⟨hlow, _⟩ := h
  omega

theorem wrap_cadenceLaw (s : State) (h : s.CadenceLaw) : (s.setTimer s.timer.wrap).CadenceLaw := by
  have hwrap : s.timer.wrap = (match s.timer.pendingTiming with
    | some n => { s.timer with counter := 0, timing := n, pendingTiming := none }
    | none => { s.timer with counter := 0 }) := rfl
  cases hp : s.timer.pendingTiming with
  | none =>
    rw [hwrap, hp]
    exact ⟨h.timing.period_pos, h.timing, h.pending⟩
  | some n =>
    rw [hwrap, hp]
    exact ⟨(h.pending n hp).period_pos, h.pending n hp, nofun⟩

theorem frameComplete_timer (s : State) : (frameComplete s).timer = (cancelPoints s).timer := by
  simp [frameComplete]

theorem cadenceLaw_effects : EffectsKeep State.CadenceLaw where
  same g h := h.of_timer g.counter g.timing g.pendingTiming
  pin _ _ := cadenceLaw_of_reset rfl
  soft _ _ := cadenceLaw_of_reset rfl
  write _ _ _ h := h.of_timer rfl rfl rfl
  count := count_cadenceLaw
  wrap := wrap_cadenceLaw
  pendingTiming _ n hn h :=
    ⟨h.counter, h.timing, fun m hm => by cases hm; exact n.law_of_inRange hn⟩
  gains _ _ _ h := h.of_timer rfl rfl rfl
  table _ _ _ h := h.of_timer rfl rfl rfl
  leave _ _ _ h := h.of_timer rfl rfl rfl
  shot _ _ h := h.of_timer rfl rfl rfl
  halt _ h := h.of_timer rfl rfl rfl
  bankOpen _ _ _ _ h := h.of_timer rfl rfl rfl
  bankClose _ _ _ _ h := h.of_timer rfl rfl rfl
  verifying _ _ _ _ h := h.of_timer rfl rfl rfl
  verified _ _ _ _ _ h := h.of_timer rfl rfl rfl
  rotate _ h := h.of_timer rfl rfl rfl
  compose _ _ _ _ _ _ h := h.of_timer rfl rfl rfl
  wait _ _ h := h.of_timer rfl rfl rfl
  resume _ _ h := h.of_timer rfl rfl rfl
  issue _ h := h.of_timer rfl rfl rfl
  abandon _ _ h := h.of_timer rfl rfl rfl
  abandonEnd s _ h := h.of_timer (by rw [abandonEnd_timer]) (by rw [abandonEnd_timer]) (by rw [abandonEnd_timer])
  frameComplete s _ h := by
    have htimer : (frameComplete s).timer = { s.timer with armed := Vector.replicate 4 false } := by
      rw [frameComplete_timer, cancelPoints_whole]
      rfl
    exact h.of_timer (by rw [htimer]) (by rw [htimer]) (by rw [htimer])

/-- Settles O51: every writer of staged gains clamps them or lets them stand, the active set is a copy of the staged
one, and a timing comes into force from OUT_SETUP's range test alone, when the counter is 0. -/
theorem everyStepKeepsGainsAndTimingInRange : Obligations.EveryStepKeepsGainsAndTimingInRange := by
  unfold Obligations.EveryStepKeepsGainsAndTimingInRange
  intro s t hgain hcadence e
  exact ⟨gainLaw_effects.closed.step s t hgain e, cadenceLaw_effects.closed.step s t hcadence e⟩

end Sys2Proof.Machine
end

section
/-! Banks and height tables (Section 2): what each change of the directory does to the verify queue and to the listed
banks, and the statement that every step keeps both laws. -/

namespace Sys2Proof.Machine

/-! ### The verify queue (R30, R31) -/

/-- The verify queue's law, of the bank manager alone. -/
structure Banks.Lawful (b : Banks) : Prop where
  once : b.queue.Nodup
  verifying : ∀ k : Fin 8, k ∈ b.queue ↔ (b.dir[k].check?).isSome = true
  head : ∀ e, b.engine = some e → b.queue.head? = some e.bank

theorem State.verifyLaw_iff (s : State) : s.VerifyLaw ↔ s.banks.Lawful :=
  ⟨fun h => ⟨h.once, h.verifying, h.head⟩, fun h => ⟨h.once, h.verifying, h.head⟩⟩

namespace Banks.Lawful
variable {b : Banks} (h : b.Lawful)

/-- No bank VERIFYING, and nothing queued. -/
theorem of_empty (hq : b.queue = []) (he : b.engine = none) (hd : ∀ k : Fin 8, b.dir[k].check? = none) :
    b.Lawful where
  once := by rw [hq]; exact List.nodup_nil
  verifying k := by rw [hq, hd k]; simp
  head e := by simp [he]

include h

/-- An idle engine takes the head of the queue, which is what the law asks of its bank. -/
theorem takeHead : b.takeHead.Lawful := by
  unfold Banks.takeHead
  split
  · next k rest _ hq => exact ⟨h.once, h.verifying, fun e he => by cases he; rw [hq]; rfl⟩
  · exact h

theorem mem_queue_iff (k : Fin 8) : k ∈ b.queue ↔ ∃ c, b.dir[k] = .verifying c := by
  rw [h.verifying k]
  cases b.dir[k] <;> simp [BankEntry.check?]

theorem setDir {k : Fin 8} {x : BankEntry} (hk : b.dir[k].check? = none) (hx : x.check? = none) :
    Banks.Lawful { b with dir := b.dir.set k x } where
  once := h.once
  verifying j := by
    change j ∈ b.queue ↔ ((b.dir.set k x)[j].check?).isSome = true
    rw [get_set_fin, h.verifying j]
    split
    · next e => rw [e, hk, hx]
    · rfl
  head := h.head

/-- BANK_CLOSE puts a bank that was not VERIFYING at the tail (R28). -/
theorem close {k : Fin 8} (c : Word) (hk : b.dir[k] = .loading) :
    Banks.Lawful { b with dir := b.dir.set k (.verifying c), queue := b.queue ++ [k] } where
  once := by
    have hnew : k ∉ b.queue := by rw [h.verifying k, hk]; exact nofun
    exact List.nodup_append.mpr
      ⟨h.once, List.nodup_singleton k, fun a ha j hj e => hnew (by rwa [e, List.mem_singleton.mp hj] at ha)⟩
  verifying j := by
    change j ∈ b.queue ++ [k] ↔ ((b.dir.set k (.verifying c))[j].check?).isSome = true
    rw [get_set_fin, List.mem_append, List.mem_singleton, h.verifying j]
    split
    · next e => simp [e, BankEntry.check?]
    · next e => simp [e]
  head e he := by
    change (b.queue ++ [k]).head? = some e.bank
    rw [List.head?_append, h.head e he]
    rfl

/-- The bank in hand leaves the head of the queue when it is VERIFYING no longer (R35). -/
theorem finish {e : Engine} (he : b.engine = some e) {v : BankEntry} (hv : v.check? = none) :
    Banks.Lawful { dir := b.dir.set e.bank v, queue := b.queue.tail, engine := none } where
  once := h.once.tail
  verifying j := by
    obtain ⟨rest, hq⟩ := List.head?_eq_some_iff.mp (h.head e he)
    have hmem := h.verifying j
    have hnot : e.bank ∉ rest := (List.nodup_cons.mp (hq ▸ h.once)).1
    change j ∈ b.queue.tail ↔ ((b.dir.set e.bank v)[j].check?).isSome = true
    rw [get_set_fin]
    rw [hq, List.mem_cons] at hmem
    rw [hq, List.tail_cons]
    split
    · next ej => simp [ej, hv, hnot]
    · next ej => rw [← hmem]; simp [ej]
  head _ := nofun

end Banks.Lawful

/-! ### Listed banks (R36, R37) -/

theorem tableReady_none (dir : Vector BankEntry 8) : tableReady dir none := nofun

/-- A table stays ready when the bank that changes is not listed in it. -/
theorem tableReady.set {dir : Vector BankEntry 8} {t : Option (List TableEntry)} (h : tableReady dir t) {b : Fin 8}
    (x : BankEntry) (hb : listed t b = false) : tableReady (dir.set b x) t := by
  rintro es rfl
  obtain ⟨d, hd⟩ := h es rfl
  refine ⟨d, fun e he => ?_⟩
  have hne : e.bank ≠ b := fun hbank => by
    have hany : es.any (fun e => decide (e.bank = b)) = true := List.any_eq_true.mpr ⟨e, he, by simp [hbank]⟩
    exact absurd hany (by simpa [listed] using hb)
  rw [get_set_fin, if_neg hne]
  exact hd e he

/-- A bank that is not READY is listed in no ready table. -/
theorem tableReady.listed_eq_false {dir : Vector BankEntry 8} {t : Option (List TableEntry)} (h : tableReady dir t)
    {b : Fin 8} (hb : ∀ d, dir[b] ≠ .ready d) : listed t b = false := by
  cases t with
  | none => rfl
  | some es =>
    obtain ⟨d, hd⟩ := h es rfl
    refine List.any_eq_false.mpr fun e he hbank => ?_
    exact hb d ((of_decide_eq_true hbank) ▸ hd e he)

theorem tableReady_of_valid {dir : Vector BankEntry 8} {es : List TableEntry} (h : tableValid dir es = true) :
    tableReady dir (some es) := by
  rintro _ ⟨rfl⟩
  exact ((tableValid_iff dir es).mp h).2.2

/-! ### The law of both (R36) -/

theorem State.VerifyLaw.of_banks {s t : State} (h : s.VerifyLaw) (hb : t.banks = s.banks) : t.VerifyLaw := by
  rw [State.verifyLaw_iff, hb, ← State.verifyLaw_iff]
  exact h

namespace State.TableLaw
variable {s t : State} (h : s.TableLaw)
include h

theorem of_same (hb : t.banks = s.banks) (hs : t.staged.table = s.staged.table)
    (ha : t.active.table = s.active.table) : t.TableLaw where
  verify := h.verify.of_banks hb
  staged := by rw [hb, hs]; exact h.staged
  active := by rw [hb, ha]; exact h.active

/-- The law after a change of one unlisted bank. -/
theorem of_setBanks {b : Banks} {k : Fin 8} {x : BankEntry} (hlaw : b.Lawful) (hdir : b.dir = s.banks.dir.set k x)
    (hs : listed s.staged.table k = false) (ha : listed s.active.table k = false) : (s.setBanks b).TableLaw where
  verify := (State.verifyLaw_iff _).mpr hlaw
  staged := by
    change tableReady b.dir s.staged.table
    rw [hdir]
    exact h.staged.set x hs
  active := by
    change tableReady b.dir s.active.table
    rw [hdir]
    exact h.active.set x ha

end State.TableLaw

theorem tableLaw_of_reset {s : State} (hq : s.banks.queue = []) (he : s.banks.engine = none)
    (hd : ∀ k : Fin 8, s.banks.dir[k].check? = none) (hs : s.staged.table = none) (ha : s.active.table = none) :
    s.TableLaw where
  verify := (State.verifyLaw_iff s).mpr (.of_empty hq he hd)
  staged := by rw [hs]; exact tableReady_none _
  active := by rw [ha]; exact tableReady_none _

theorem BankEntry.softReset_check? (x : BankEntry) : x.softReset.check? = none := by
  cases x <;> rfl

theorem Banks.takeHead_dir (b : Banks) : b.takeHead.dir = b.dir := by
  unfold Banks.takeHead
  split <;> rfl

theorem frameComplete_stagedTable (s : State) : (frameComplete s).staged.table = s.staged.table := by
  have update : ∀ t : State, t.staged = s.staged → (gainUpdate t).staged.table = s.staged.table := by
    intro t ht
    unfold gainUpdate
    split
    · rw [ht]
    · change t.staged.table = s.staged.table
      rw [ht]
  unfold frameComplete
  dsimp only
  rw [State.setComp_staged, settleShot_staged, settleCoverage_staged]
  exact update _ (by simp)

theorem tableLaw_effects : EffectsKeep State.TableLaw where
  same g h := h.of_same g.banks g.stagedTable g.activeTable
  pin _ _ := tableLaw_of_reset rfl rfl (by change ∀ k : Fin 8, (Banks.default.dir)[k].check? = none; decide) rfl rfl
  soft s _ := by
    refine tableLaw_of_reset rfl rfl (fun k => ?_) rfl rfl
    change (s.banks.dir.map BankEntry.softReset)[k].check? = none
    rw [Fin.getElem_fin, Vector.getElem_map]
    exact BankEntry.softReset_check? _
  write _ _ _ h := h.of_same rfl rfl rfl
  count _ h := h.of_same rfl rfl rfl
  wrap _ h := h.of_same rfl rfl rfl
  pendingTiming _ _ _ h := h.of_same rfl rfl rfl
  gains _ _ _ h := h.of_same rfl rfl rfl
  table _ _ hvalid h := ⟨h.verify.of_banks rfl, tableReady_of_valid hvalid, h.active⟩
  leave _ _ _ h := h.of_same rfl rfl rfl
  shot _ _ h := h.of_same rfl rfl rfl
  halt _ h := h.of_same rfl rfl rfl
  bankOpen s b hcheck hunlisted h := by
    obtain ⟨hs, ha⟩ := Bool.or_eq_false_iff.mp hunlisted
    exact h.of_setBanks (((State.verifyLaw_iff s).mp h.verify).setDir hcheck rfl) rfl hs ha
  bankClose s b c hloading h := by
    have hb : ∀ d, s.banks.dir[b] ≠ .ready d := fun d => by rw [hloading]; exact nofun
    exact h.of_setBanks (((State.verifyLaw_iff s).mp h.verify).close c hloading).takeHead (Banks.takeHead_dir _)
      (h.staged.listed_eq_false hb) (h.active.listed_eq_false hb)
  verifying s e bs he h :=
    ⟨⟨h.verify.once, h.verify.verifying, fun e' he' => by cases he'; exact h.verify.head e he⟩, h.staged, h.active⟩
  verified s e v he hv h := by
    have hlaw := (State.verifyLaw_iff s).mp h.verify
    have hb : ∀ d, s.banks.dir[e.bank] ≠ .ready d := fun d hd => by
      obtain ⟨c, hc⟩ := (hlaw.mem_queue_iff e.bank).mp (List.mem_of_head? (h.verify.head e he))
      rw [hc] at hd
      cases hd
    exact h.of_setBanks (hlaw.finish he hv).takeHead (Banks.takeHead_dir _) (h.staged.listed_eq_false hb)
      (h.active.listed_eq_false hb)
  rotate _ h := h.of_same rfl rfl rfl
  compose s k _ _ _ _ h := ⟨h.verify.of_banks (compositionOpen_banks k s), h.staged, h.staged⟩
  wait _ _ h := h.of_same rfl rfl rfl
  resume _ _ h := h.of_same rfl rfl rfl
  issue _ h := h.of_same rfl rfl rfl
  abandon _ _ h := h.of_same rfl rfl rfl
  abandonEnd s _ h := h.of_same (abandonEnd_banks s) (by rw [abandonEnd_staged]) (by rw [abandonEnd_active])
  frameComplete s _ h := h.of_same (frameComplete_banks s) (frameComplete_stagedTable s) (by rw [frameComplete_active])

/-- Settles O52: a bank changes only while it is not listed, since a listed bank is READY and BANK_OPEN refuses it, and
each change of a VERIFYING entry goes with its place in the queue. -/
theorem everyStepKeepsListedBanksReady : Obligations.EveryStepKeepsListedBanksReady := by
  unfold Obligations.EveryStepKeepsListedBanksReady
  exact tableLaw_effects.closed.step

end Sys2Proof.Machine
end

section
/-! Treatment counts and frame records (Sections 5.1, 5.7 and 5.9): what an issue counts, what a frame record takes over,
and the statement that every step keeps the counts. -/

namespace Sys2Proof.Machine

/-! ### Frame records (R103, R104) -/

/-- What R96 and R103 ask of one frame record. -/
def FrameRecord.Counted (r : FrameRecord) : Prop :=
  r.fresh + r.held + r.filled = r.issued ∧ r.issued ≤ 384 ∧ (r.outcome = .published → r.issued = 384)

theorem length_addRecord (h : List FrameRecord) (r : FrameRecord) : (addRecord h r).length ≤ 8 := by
  unfold addRecord
  exact List.length_take_le 8 _

theorem mem_addRecord {h : List FrameRecord} {r x : FrameRecord} (hx : x ∈ addRecord h r) : x = r ∨ x ∈ h := by
  unfold addRecord at hx
  exact List.mem_cons.mp (List.mem_of_mem_take hx)

/-! ### The law -/

theorem State.CountLaw.of_comp {s t : State} (h : s.CountLaw) (hc : s.comp.SameCounts t.comp) : t.CountLaw where
  sum := by rw [hc.fresh, hc.held, hc.filled, hc.index]; exact h.sum
  bound := by rw [hc.index]; exact h.bound
  running := by rw [hc.state, hc.index]; exact h.running
  draining := by rw [hc.state, hc.index]; exact h.draining
  records := by rw [hc.history]; exact h.records
  history := by rw [hc.history]; exact h.history

theorem State.CountLaw.of_comp_eq {s t : State} (h : s.CountLaw) (hc : t.comp = s.comp) : t.CountLaw :=
  h.of_comp (by rw [hc]; constructor <;> rfl)

theorem countLaw_of_reset {s : State} (h : s.comp = Composer.default) : s.CountLaw := by
  constructor <;> rw [h]
  · rfl
  · decide
  · exact fun _ => by decide
  · exact nofun
  · exact nofun
  · decide

/-- A composition starts with nothing issued (R84). -/
theorem compositionOpen_countLaw (k : Fin 3) (s : State) (h : s.CountLaw) : (compositionOpen k s).CountLaw := by
  constructor <;> rw [compositionOpen_comp]
  · rfl
  · exact Nat.zero_le _
  · exact fun _ => (by decide : 0 < 384)
  · exact nofun
  · exact h.records
  · exact h.history

/-- An issue adds 1 to the tile index and to one of the three counts; issuing tile 383 enters DRAINING (R94). -/
theorem issue_countLaw (s : State) (h : s.CountLaw) : (s.setComp s.comp.issue).CountLaw := by
  by_cases hissue : s.comp.state = .issuing ∧ (∃ t, s.comp.decided = some t) ∧ s.comp.fetch = none
  · obtain ⟨hstate, ⟨t, ht⟩, hfetch⟩ := hissue
    have hsum := h.sum
    have hindex := h.running (.inl hstate)
    rw [Composer.issue_decided s.comp t hstate ht hfetch]
    refine ⟨?_, by change s.comp.index + 1 ≤ 384; omega, fun hrun => ?_, fun hdrain => ?_, h.records, h.history⟩
    · simp only [State.setComp_comp]
      cases t.treatment <;> simp <;> omega
    · simp only [State.setComp_comp] at hrun ⊢
      split at hrun
      · simp at hrun
      · omega
    · simp only [State.setComp_comp] at hdrain ⊢
      split at hdrain
      · assumption
      · cases hdrain
  · have hrest : s.comp.issue = s.comp := by
      unfold Composer.issue
      split
      · next t hstate ht hfetch => exact absurd ⟨hstate, ⟨t, ht⟩, hfetch⟩ hissue
      · rfl
    rw [hrest]
    exact h.of_comp_eq rfl

/-- The composer after a composition's end: IDLE, the index and the counts as they stood, one record more. -/
theorem State.CountLaw.of_ended {s t : State} (h : s.CountLaw) (r : FrameRecord) (hr : r.Counted)
    (hstate : t.comp.state = .idle) (hindex : t.comp.index = s.comp.index) (hfresh : t.comp.fresh = s.comp.fresh)
    (hheld : t.comp.held = s.comp.held) (hfilled : t.comp.filled = s.comp.filled)
    (hhistory : t.comp.history = addRecord s.comp.history r) : t.CountLaw where
  sum := by rw [hfresh, hheld, hfilled, hindex]; exact h.sum
  bound := by rw [hindex]; exact h.bound
  running := by rw [hstate]; exact nofun
  draining := by rw [hstate]; exact nofun
  records x hx := by
    rw [hhistory] at hx
    rcases mem_addRecord hx with rfl | hx
    · exact hr
    · exact h.records x hx
  history := by rw [hhistory]; exact length_addRecord _ _

theorem abandonEnd_countLaw (s : State) (h : s.CountLaw) : (abandonEnd s).CountLaw := by
  have hcomp : (releaseSlots (freeSlot s)).comp = s.comp := by simp
  refine h.of_ended (frameRecord (releaseSlots (freeSlot s)) .abandoned) ?_ ?_ ?_ ?_ ?_ ?_ ?_
  · unfold FrameRecord.Counted frameRecord
    rw [hcomp]
    exact ⟨h.sum, h.bound, nofun⟩
  all_goals simp [abandonEnd, Composer.finish]

theorem cancelPoints_sameCounts (s : State) : s.comp.SameCounts (cancelPoints s).comp := by
  rw [cancelPoints_whole]
  constructor <;> rfl

theorem frameComplete_countLaw (s : State) (hdraining : s.comp.state = .draining) (h : s.CountLaw) :
    (frameComplete s).CountLaw := by
  have hsame := cancelPoints_sameCounts s
  have hcomp : (publishSlot (releaseSlots (cancelPoints s))).comp = (cancelPoints s).comp := by simp
  refine h.of_ended (frameRecord (publishSlot (releaseSlots (cancelPoints s))) .published) ?_ ?_ ?_ ?_ ?_ ?_ ?_
  · unfold FrameRecord.Counted frameRecord
    rw [hcomp, hsame.fresh, hsame.held, hsame.filled, hsame.index]
    exact ⟨h.sum, h.bound, fun _ => h.draining hdraining⟩
  all_goals
    simp [frameComplete, Composer.finish, settleCoverage_comp, hsame.index, hsame.fresh, hsame.held, hsame.filled,
      hsame.history]

theorem countLaw_effects : EffectsKeep State.CountLaw where
  same g h := h.of_comp ⟨g.compState, g.compSlot, g.index, g.fresh, g.held, g.filled, g.history⟩
  pin _ _ := countLaw_of_reset rfl
  soft _ _ := countLaw_of_reset rfl
  write _ _ _ h := h.of_comp_eq rfl
  count _ h := h.of_comp_eq rfl
  wrap _ h := h.of_comp_eq rfl
  pendingTiming _ _ _ h := h.of_comp_eq rfl
  gains _ _ _ h := h.of_comp_eq rfl
  table _ _ _ h := h.of_comp_eq rfl
  leave _ _ _ h := h.of_comp_eq rfl
  shot _ _ h := h.of_comp_eq rfl
  halt _ h := h.of_comp ⟨rfl, rfl, rfl, rfl, rfl, rfl, rfl⟩
  bankOpen _ _ _ _ h := h.of_comp_eq rfl
  bankClose _ _ _ _ h := h.of_comp_eq rfl
  verifying _ _ _ _ h := h.of_comp_eq rfl
  verified _ _ _ _ _ h := h.of_comp_eq rfl
  rotate _ h := h.of_comp_eq rfl
  compose s k _ _ _ _ h := compositionOpen_countLaw k s h
  wait _ hissuing h := ⟨h.sum, h.bound, fun _ => h.running (.inl hissuing), nofun, h.records, h.history⟩
  resume _ hwaiting h := ⟨h.sum, h.bound, fun _ => h.running (.inr hwaiting), nofun, h.records, h.history⟩
  issue := issue_countLaw
  abandon _ _ h := ⟨h.sum, h.bound, nofun, nofun, h.records, h.history⟩
  abandonEnd s _ h := abandonEnd_countLaw s h
  frameComplete := frameComplete_countLaw

/-- Settles O55: only an issue moves the index and the counts, both by one, and a record takes them as they stand; a
PUBLISHED record is made in DRAINING, which all 384 tiles have reached. -/
theorem everyStepKeepsTheTreatmentCounts : Obligations.EveryStepKeepsTheTreatmentCounts := by
  unfold Obligations.EveryStepKeepsTheTreatmentCounts
  exact countLaw_effects.closed.step

end Sys2Proof.Machine
end

section
/-! The output slots' law (Section 7.1): the effects that move a slot or the composing slot, a FREE slot and a height
table at every composition start, and the statement that rests on them. -/

namespace Sys2Proof.Machine

namespace State.SlotLaw
variable {s t : State} (h : s.SlotLaw)
include h

/-- The law speaks of the slots, of the composing slot and the composer state, of the tables and of the top state. -/
theorem of_same (hslots : t.out.slots = s.out.slots) (hslot : t.comp.slot = s.comp.slot)
    (hstate : t.comp.state = s.comp.state) (hs : t.staged.table = s.staged.table)
    (ha : t.active.table = s.active.table) (htop : t.top.state = s.top.state) : t.SlotLaw where
  composing := by rw [hslots, hslot]; exact h.composing
  idle := by rw [hslot, hstate]; exact h.idle
  published := by rw [hslots]; exact h.published
  scanning := by rw [hslots]; exact h.scanning
  publishedIdle := by rw [hslots, hstate]; exact h.publishedIdle
  staged := by rw [ha, hs]; exact h.staged
  wanted := by rw [htop, hs]; exact h.wanted

/-- Between two states of a composition the composing slot stays. -/
theorem of_setState {st : ComposerState} (hs : s.comp.state ≠ .idle) (hst : st ≠ .idle) :
    (s.setComp { s.comp with state := st }).SlotLaw where
  composing := h.composing
  idle := ⟨fun hnone => absurd (h.idle.mp hnone) hs, fun hidle => absurd hidle hst⟩
  published := h.published
  scanning := h.scanning
  publishedIdle k hk := absurd (h.publishedIdle k hk) hs
  staged := h.staged
  wanted := h.wanted

/-- A staged table that stays or comes does no harm. -/
theorem of_top (hout : t.out = s.out) (hcomp : t.comp = s.comp) (ha : t.active = s.active)
    (hs : t.staged = s.staged) (htop : t.top.state = .run ∨ t.top.state = .shot → s.staged.table.isSome = true) :
    t.SlotLaw where
  composing := by rw [hout, hcomp]; exact h.composing
  idle := by rw [hcomp]; exact h.idle
  published := by rw [hout]; exact h.published
  scanning := by rw [hout]; exact h.scanning
  publishedIdle := by rw [hout, hcomp]; exact h.publishedIdle
  staged := by rw [ha, hs]; exact h.staged
  wanted := by rw [hs]; exact htop

theorem hasTable_staged (htable : s.hasTable = true) : s.staged.table.isSome = true :=
  (Bool.or_eq_true_iff.mp htable).elim id h.staged

end State.SlotLaw

theorem slotLaw_of_reset {s : State} (hslots : s.out.slots = State.reset.out.slots) (hcomp : s.comp = State.reset.comp)
    (ha : s.active = State.reset.active) (htop : s.top = State.reset.top) :
    s.SlotLaw := by
  have hfree : ∀ k : Fin 3, State.reset.out.slots[k] = .free := by decide
  constructor
  case composing =>
    rw [hslots, hcomp]
    intro k
    rw [hfree k]
    exact ⟨nofun, nofun⟩
  case idle => rw [hcomp]; exact ⟨fun _ => rfl, fun _ => rfl⟩
  case published =>
    rw [hslots]
    intro i j hi
    rw [hfree i] at hi
    cases hi
  case scanning =>
    rw [hslots]
    intro i j hi
    rw [hfree i] at hi
    cases hi
  case publishedIdle => rw [hcomp]; exact fun _ _ => rfl
  case staged => rw [ha]; exact nofun
  case wanted => rw [htop]; exact fun hrun => hrun.elim nofun nofun

/-! ### Rotation and STOP (R116, R118) -/

theorem rotate_slotLaw (s : State) (h : s.SlotLaw) :
    (s.setOut { s.out with slots := (s.out.rotate s.top.state).slots }).SlotLaw where
  composing k := by
    change (s.out.rotate s.top.state).slots[k].isComposing = true ↔ _
    rw [Output.rotate_isComposing]
    exact h.composing k
  idle := h.idle
  published i j hi := by
    have hnone := s.out.rotate_isPublished s.top.state i
    exact absurd hi (Bool.eq_false_iff.mp hnone)
  scanning i j hi hj := by
    rcases Output.rotate_isScanning hi with hip | ⟨his, hnone⟩ <;>
      rcases Output.rotate_isScanning hj with hjp | ⟨hjs, hnone'⟩
    · exact h.published i j hip hjp
    · exact absurd hip (Bool.eq_false_iff.mp (hnone' i))
    · exact absurd hjp (Bool.eq_false_iff.mp (hnone j))
    · exact h.scanning i j his hjs
  publishedIdle k hk := absurd hk (Bool.eq_false_iff.mp (s.out.rotate_isPublished s.top.state k))
  staged := h.staged
  wanted := h.wanted

theorem OutSlot.unpublish_isComposing (x : OutSlot) : x.unpublish.isComposing = x.isComposing := by cases x <;> rfl
theorem OutSlot.unpublish_isScanning (x : OutSlot) : x.unpublish.isScanning = x.isScanning := by cases x <;> rfl
theorem OutSlot.unpublish_isPublished (x : OutSlot) : x.unpublish.isPublished = false := by cases x <;> rfl

theorem haltTop_slotLaw (s : State) (h : s.SlotLaw) : s.haltTop.SlotLaw := by
  have hget : ∀ k : Fin 3, s.haltTop.out.slots[k] = s.out.slots[k].unpublish := fun k => by
    change (s.out.slots.map OutSlot.unpublish)[k] = _
    rw [Fin.getElem_fin, Vector.getElem_map]
    rfl
  refine ⟨fun k => ?_, h.idle, fun i j hi => ?_, fun i j hi hj => ?_, fun k hk => ?_, h.staged,
    fun hrun => hrun.elim nofun nofun⟩
  · rw [hget, OutSlot.unpublish_isComposing]
    exact h.composing k
  · rw [hget, OutSlot.unpublish_isPublished] at hi
    cases hi
  · rw [hget, OutSlot.unpublish_isScanning] at hi hj
    exact h.scanning i j hi hj
  · rw [hget, OutSlot.unpublish_isPublished] at hk
    cases hk

/-! ### The beginning and the end of a composition (R84, R97, R102) -/

theorem State.SlotLaw.no_composing {s : State} (h : s.SlotLaw) (hidle : s.comp.state = .idle) (k : Fin 3) :
    s.out.slots[k].isComposing = false := by
  refine Bool.eq_false_of_not_eq_true fun hk => ?_
  have hslot := (h.composing k).mp hk
  rw [h.idle.mpr hidle] at hslot
  cases hslot

theorem compositionOpen_slotLaw (s : State) (k : Fin 3) (hidle : s.comp.state = .idle)
    (htable : s.staged.table.isSome = true) (hrotated : ∀ j : Fin 3, s.out.slots[j].isPublished = false)
    (h : s.SlotLaw) : (compositionOpen k s).SlotLaw := by
  constructor
  case composing =>
    intro j
    rw [compositionOpen_out, compositionOpen_comp]
    change (s.out.slots.set k _)[j].isComposing = true ↔ some k = some j
    rw [get_set_fin]
    split
    · next e => simp [e, OutSlot.isComposing]
    · next e =>
      rw [h.no_composing hidle j]
      exact ⟨nofun, fun hk => absurd (Option.some.inj hk).symm e⟩
  case idle => rw [compositionOpen_comp]; exact ⟨nofun, nofun⟩
  case published =>
    rw [compositionOpen_out]
    exact unique_of_set s.out.slots OutSlot.isPublished k _ h.published nofun
  case scanning =>
    rw [compositionOpen_out]
    exact unique_of_set s.out.slots OutSlot.isScanning k _ h.scanning nofun
  case publishedIdle =>
    intro j hj
    rw [compositionOpen_out] at hj
    change (s.out.slots.set k _)[j].isPublished = true at hj
    rw [get_set_fin] at hj
    split at hj
    · cases hj
    · rw [hrotated j] at hj
      cases hj
  case staged => exact fun _ => htable
  case wanted => exact fun _ => htable

/-- The composition ends: its slot takes `x`, which is not COMPOSING, and the composer is IDLE. -/
theorem State.SlotLaw.of_ended {s t : State} (h : s.SlotLaw) (x : OutSlot) (hx : x.isComposing = false)
    (hscan : x.isScanning = false) (hrun : s.comp.state ≠ .idle)
    (hslots : ∀ k : Fin 3, s.comp.slot = some k → t.out.slots = s.out.slots.set k x) (hslot : t.comp.slot = none)
    (hstate : t.comp.state = .idle) (hs : t.staged.table = s.staged.table) (ha : t.active.table = s.active.table)
    (htop : t.top.state = .run ∨ t.top.state = .shot → s.top.state = .run ∨ s.top.state = .shot) : t.SlotLaw := by
  obtain ⟨k, hk⟩ := Option.ne_none_iff_exists'.mp (mt h.idle.mp hrun)
  have hslots := hslots k hk
  have hnone : ∀ j : Fin 3, s.out.slots[j].isPublished = false := fun j =>
    Bool.eq_false_of_not_eq_true fun hj => hrun (h.publishedIdle j hj)
  refine ⟨fun j => ?_, ⟨fun _ => hstate, fun _ => hslot⟩, ?_, ?_, fun _ _ => hstate, ?_, ?_⟩
  · rw [hslots, hslot, get_set_fin]
    refine ⟨fun hj => ?_, nofun⟩
    split at hj
    · rw [hx] at hj
      cases hj
    · next hne => exact absurd (Option.some.inj (hk.symm.trans ((h.composing j).mp hj))).symm hne
  · rw [hslots]
    exact unique_of_set s.out.slots OutSlot.isPublished k x h.published fun _ => .inr hnone
  · rw [hslots]
    exact unique_of_set s.out.slots OutSlot.isScanning k x h.scanning fun hsx => by rw [hscan] at hsx; cases hsx
  · rw [ha, hs]
    exact h.staged
  · rw [hs]
    exact fun hrun => h.wanted (htop hrun)

theorem abandonEnd_slotLaw (s : State) (habandoning : s.comp.state = .abandoning) (h : s.SlotLaw) :
    (abandonEnd s).SlotLaw := by
  refine h.of_ended .free rfl rfl (by rw [habandoning]; exact nofun) (fun k hk => ?_) ?_ ?_ ?_ ?_ ?_
  · simp [abandonEnd, freeSlot, hk]
  · simp [abandonEnd, Composer.finish]
  · simp [abandonEnd, Composer.finish]
  · rw [abandonEnd_staged]
  · rw [abandonEnd_active]
  · rw [abandonEnd_top]
    exact id

theorem settleShot_top (s : State) : (settleShot s).top = if s.top.state = .shot then s.top.completeShot else s.top := by
  unfold settleShot
  split
  · rw [State.notice_top]
    rfl
  · rfl

theorem frameComplete_top (s : State) :
    (frameComplete s).top = if s.top.state = .shot then s.top.completeShot else s.top := by
  unfold frameComplete
  dsimp only
  rw [State.setComp_top, settleShot_top, settleCoverage_top, gainUpdate_top]
  simp

theorem publishSlot_out {s : State} {k : Fin 3} (hk : s.comp.slot = some k) :
    (publishSlot s).out = { s.out with slots := s.out.slots.set k s.out.slots[k].publish } := by
  unfold publishSlot
  rw [hk]
  rfl

theorem cancelPoints_comp_slot (s : State) : (cancelPoints s).comp.slot = s.comp.slot :=
  (cancelPoints_sameCounts s).slot

theorem frameComplete_out (s : State) {k : Fin 3} (hk : s.comp.slot = some k) :
    (frameComplete s).out = { s.out with slots := s.out.slots.set k s.out.slots[k].publish } := by
  have hout := publishSlot_out (s := releaseSlots (cancelPoints s)) (k := k)
    (by rw [releaseSlots_comp, cancelPoints_comp_slot, hk])
  simp only [releaseSlots_out, cancelPoints_out] at hout
  unfold frameComplete
  dsimp only
  rw [State.setComp_out, settleShot_out, settleCoverage_out, gainUpdate_out, State.setComp_out, hout]

theorem frameComplete_comp_idle (s : State) :
    (frameComplete s).comp.state = .idle ∧ (frameComplete s).comp.slot = none := ⟨rfl, rfl⟩

theorem frameComplete_slotLaw (s : State) (hdraining : s.comp.state = .draining) (h : s.SlotLaw) :
    (frameComplete s).SlotLaw := by
  have hrun : s.comp.state ≠ .idle := by rw [hdraining]; exact nofun
  obtain ⟨k, hk⟩ := Option.ne_none_iff_exists'.mp (mt h.idle.mp hrun)
  have hcomposing := (h.composing k).mpr hk
  have hx : s.out.slots[k].publish.isComposing = false ∧ s.out.slots[k].publish.isScanning = false := by
    revert hcomposing
    cases s.out.slots[k] <;> simp [OutSlot.isComposing, OutSlot.publish, OutSlot.isScanning]
  obtain ⟨hidle, hslot⟩ := frameComplete_comp_idle s
  refine h.of_ended _ hx.1 hx.2 hrun (fun j hj => ?_) hslot hidle (frameComplete_stagedTable s)
    (by rw [frameComplete_active]) ?_
  · rw [Option.some.inj (hj.symm.trans hk), frameComplete_out s hk]
  · rw [frameComplete_top]
    split
    · next hshot => exact fun _ => .inr hshot
    · exact id

/-- An issue takes ISSUING to ISSUING or DRAINING and keeps the composing slot (R94). -/
theorem issue_slotLaw (s : State) (h : s.SlotLaw) : (s.setComp s.comp.issue).SlotLaw := by
  have hphase := s.comp.issue_samePhase
  have hslot := s.comp.issue_same.slot
  exact ⟨fun k => by rw [State.setComp_comp, hslot]; exact h.composing k,
    by rw [State.setComp_comp, hslot, hphase.idle]; exact h.idle, h.published, h.scanning,
    fun k hk => hphase.idle.mpr (h.publishedIdle k hk), h.staged, h.wanted⟩

theorem Composer.not_idle_of_composing {c : Composer} (h : c.composing = true) : c.state ≠ .idle := by
  intro hidle
  rw [Composer.composing, hidle] at h
  cases h

theorem slotLaw_effects : EffectsKeep State.SlotLaw where
  same g h := h.of_same g.outSlots g.compSlot g.compState g.stagedTable g.activeTable g.topState
  pin _ _ := slotLaw_of_reset rfl rfl rfl rfl
  soft _ _ := slotLaw_of_reset rfl rfl rfl rfl
  write _ _ _ h := h.of_same rfl rfl rfl rfl rfl rfl
  count _ h := h.of_same rfl rfl rfl rfl rfl rfl
  wrap _ h := h.of_same rfl rfl rfl rfl rfl rfl
  pendingTiming _ _ _ h := h.of_same rfl rfl rfl rfl rfl rfl
  gains _ _ _ h := h.of_same rfl rfl rfl rfl rfl rfl
  table _ _ _ h := ⟨h.composing, h.idle, h.published, h.scanning, h.publishedIdle, fun _ => rfl, fun _ => rfl⟩
  leave _ _ htable h := h.of_top rfl rfl rfl rfl fun _ => h.hasTable_staged htable
  shot _ hshot h := h.of_top rfl rfl rfl rfl fun _ => h.wanted (.inr hshot)
  halt := haltTop_slotLaw
  bankOpen _ _ _ _ h := h.of_same rfl rfl rfl rfl rfl rfl
  bankClose _ _ _ _ h := h.of_same rfl rfl rfl rfl rfl rfl
  verifying _ _ _ _ h := h.of_same rfl rfl rfl rfl rfl rfl
  verified _ _ _ _ _ h := h.of_same rfl rfl rfl rfl rfl rfl
  rotate := rotate_slotLaw
  compose s k hidle _ htable hrotated h := compositionOpen_slotLaw s k hidle htable hrotated h
  wait _ hissuing h := h.of_setState (by rw [hissuing]; exact nofun) nofun
  resume _ hwaiting h := h.of_setState (by rw [hwaiting]; exact nofun) nofun
  issue := issue_slotLaw
  abandon _ hcomposing h := h.of_setState (Composer.not_idle_of_composing hcomposing) nofun
  abandonEnd := abandonEnd_slotLaw
  frameComplete := frameComplete_slotLaw

/-! ### No mark stops the part (R84, R135) -/

theorem mem_slots3 (k : Fin 3) : k ∈ slots3 := by
  revert k; decide

/-- An idle composer leaves no slot COMPOSING, the rotation none PUBLISHED, and at most one is SCANNING: one is FREE. -/
theorem State.SlotLaw.lowestFree_isSome {s : State} (h : s.SlotLaw) (hidle : s.comp.state = .idle)
    (hrotated : ∀ j : Fin 3, s.out.slots[j].isPublished = false) : s.out.lowestFree ≠ none := by
  intro hnone
  have hscanning : ∀ k : Fin 3, s.out.slots[k].isScanning = true := fun k => by
    have hfree : ¬ s.out.slots[k].isFree = true := List.find?_eq_none.mp hnone k (mem_slots3 k)
    have hcomposing := h.no_composing hidle k
    have hpublished := hrotated k
    revert hfree hcomposing hpublished
    cases s.out.slots[k] <;> simp [OutSlot.isFree, OutSlot.isComposing, OutSlot.isPublished, OutSlot.isScanning]
  exact absurd (h.scanning 0 1 (hscanning 0) (hscanning 1)) (by decide)

theorem Top.wants_top (t : Top) (h : t.wants = true) : t.state = .run ∨ t.state = .shot := by
  unfold Top.wants at h
  split at h
  · next e => exact .inl e
  · next e => exact .inr e
  · cases h

theorem settleMark_steps (s : State) (h : s.SlotLaw) (hrotated : ∀ j : Fin 3, s.out.slots[j].isPublished = false) :
    ∃ t, settleMark s = .next t := by
  unfold settleMark
  split
  · next hwants =>
    split
    · next hidle =>
      obtain ⟨k, hk⟩ := Option.ne_none_iff_exists'.mp (h.lowestFree_isSome hidle hrotated)
      obtain ⟨es, hes⟩ := Option.isSome_iff_exists.mp (h.wanted (s.top.wants_top hwants))
      rw [hk, hes]
      exact ⟨_, rfl⟩
    · exact ⟨_, rfl⟩
  · exact ⟨_, rfl⟩

/-- Settles O54: the law is kept effect by effect, and a mark's rotation finds at most one slot that is not FREE when
the composer is IDLE. -/
theorem everyStepKeepsTheSlotsAndNoMarkStops : Obligations.EveryStepKeepsTheSlotsAndNoMarkStops := by
  unfold Obligations.EveryStepKeepsTheSlotsAndNoMarkStops
  intro s h
  refine ⟨fun t => slotLaw_effects.closed.step s t h, ?_⟩
  change ∃ t, execCadenceMark s = .next t
  unfold execCadenceMark
  split
  · exact ⟨_, rfl⟩
  · exact settleMark_steps _ (slotLaw_effects.markDisplay _ (slotLaw_effects.wrap s h)) (markDisplay_isPublished _)

end Sys2Proof.Machine
end

section
/-! The outbound queue's law (Sections 9.3 and 10.3): what adds to the occupancy, what the memory start of a pin reset
finds quiet, and the statement that every step keeps both. -/

namespace Sys2Proof.Machine

/-! ### Occupancy (R151) -/

theorem State.starting_eq_false_iff (s : State) : s.starting = false ↔ s.memStart = .complete := by
  simp [State.starting]

theorem State.starting_eq_true_iff (s : State) : s.starting = true ↔ s.memStart ≠ .complete := by
  simp [State.starting]

theorem State.occupancy_eq (s : State) : s.occupancy =
    s.link.queue.length + (if s.slot.isSome then 1 else 0) + (if s.stopOwed.isSome then 1 else 0) := by
  unfold State.occupancy State.owed
  omega

theorem State.occupancy_congr {s t : State} (hq : t.link.queue.length = s.link.queue.length) (hs : t.slot = s.slot)
    (ho : t.stopOwed = s.stopOwed) : t.occupancy = s.occupancy := by
  rw [State.occupancy_eq, State.occupancy_eq, hq, hs, ho]

theorem State.occupancy_setComp (s : State) (c : Composer) : (s.setComp c).occupancy = s.occupancy := rfl

theorem State.occupancy_enqueue (s : State) (m : Message) : (s.enqueue m).occupancy = s.occupancy + 1 := by
  simp only [State.occupancy_eq, State.enqueue_link, State.enqueue_slot, State.enqueue_stopOwed, List.length_append,
    List.length_singleton]
  omega

/-- At most two replies are owed, so a notice, which asks for two free places, never passes 16 (R151, R152). -/
theorem State.occupancy_notice (s : State) (k : NoticeKind) (p : List Byte) (h : s.occupancy ≤ 16) :
    (s.notice k p).occupancy ≤ 16 := by
  rcases s.notice_cases k p with e | e | ⟨hroom, e⟩ <;> rw [e]
  · exact h
  · exact h
  · rw [State.occupancy_enqueue, State.occupancy_eq]
    split <;> split <;> omega

/-! ### The law after the memory start -/

theorem queueLaw_of_running {s : State} (hrun : s.starting = false) (h : s.occupancy ≤ 16) : s.QueueLaw :=
  ⟨h, fun hstarting => by rw [hrun] at hstarting; cases hstarting⟩

theorem queueLaw_enqueue {s : State} (m : Message) (hrun : s.starting = false) (h : s.occupancy < 16) :
    (s.enqueue m).QueueLaw :=
  queueLaw_of_running hrun (by rw [State.occupancy_enqueue]; exact h)

theorem queueLaw_notice {s : State} (k : NoticeKind) (p : List Byte) (hrun : s.starting = false)
    (h : s.occupancy ≤ 16) : (s.notice k p).QueueLaw := by
  refine queueLaw_of_running ?_ (s.occupancy_notice k p h)
  unfold State.starting
  rw [State.notice_memStart]
  exact hrun

/-! ### What keeps the part quiet -/

/-- `t` has the queue and the owed replies of `s`, and whatever is at rest in `s` is at rest in `t`. -/
structure State.AtRest (s t : State) : Prop where
  starting : t.starting = s.starting
  queue : t.link.queue.length = s.link.queue.length
  slot : t.slot = s.slot
  stopOwed : t.stopOwed = s.stopOwed
  cameras : ∀ i : Fin 4, s.cams[i].state = .off → t.cams[i].state = .off
  top : s.top.state = .idle → t.top.state = .idle
  composer : s.comp.state = .idle → t.comp.state = .idle
  engine : s.banks.engine = none → t.banks.engine = none
  source : s.top.state = .idle → s.out.source = none → t.out.source = none

namespace State.AtRest

theorem refl (s : State) : s.AtRest s :=
  ⟨rfl, rfl, rfl, rfl, fun _ => id, id, id, id, fun _ => id⟩

theorem trans {s t u : State} (h : s.AtRest t) (g : t.AtRest u) : s.AtRest u where
  starting := g.starting.trans h.starting
  queue := g.queue.trans h.queue
  slot := g.slot.trans h.slot
  stopOwed := g.stopOwed.trans h.stopOwed
  cameras i hi := g.cameras i (h.cameras i hi)
  top ht := g.top (h.top ht)
  composer hc := g.composer (h.composer hc)
  engine he := g.engine (h.engine he)
  source ht hs := g.source (h.top ht) (h.source ht hs)

variable {s t : State}

theorem arbitrate (h : s.AtRest t) : s.AtRest (arbitrate t) := by
  refine h.trans ?_
  obtain ⟨a, ha⟩ := arbitrate_eq t
  rw [ha]
  exact ⟨rfl, rfl, rfl, rfl, fun _ => id, id, id, id, fun _ => id⟩

theorem resumeFill (h : s.AtRest t) : s.AtRest (resumeFill t) := by
  refine h.trans ?_
  unfold Machine.resumeFill
  split <;> exact ⟨rfl, rfl, rfl, rfl, fun _ => id, id, id, id, fun _ => id⟩

theorem landBurst (b : Burst) (h : s.AtRest t) : s.AtRest (landBurst b t) := by
  refine h.trans ?_
  unfold Machine.landBurst
  dsimp only
  split <;> exact ⟨rfl, rfl, rfl, rfl, fun _ => id, id, id, id, fun _ => id⟩

theorem setCam (i : Fin 4) {c : Camera} (hc : t.cams[i].state = .off → c.state = .off) (h : s.AtRest t) :
    s.AtRest (t.setCam i c) := by
  refine h.trans ⟨rfl, rfl, rfl, rfl, fun j hj => ?_, id, id, id, fun _ => id⟩
  rw [State.setCam_get]
  split
  · next e => exact hc (e ▸ hj)
  · exact hj

theorem setComp {c : Composer} (hc : t.comp.state = .idle → c.state = .idle) (h : s.AtRest t) :
    s.AtRest (t.setComp c) :=
  h.trans ⟨rfl, rfl, rfl, rfl, fun _ => id, id, hc, id, fun _ => id⟩

theorem setOut {o : Output} (ho : t.top.state = .idle → t.out.source = none → o.source = none) (h : s.AtRest t) :
    s.AtRest (t.setOut o) :=
  h.trans ⟨rfl, rfl, rfl, rfl, fun _ => id, id, id, id, ho⟩

end State.AtRest

theorem State.QueueLaw.of_atRest {s t : State} (h : s.QueueLaw) (g : s.AtRest t) : t.QueueLaw where
  occupancy := by rw [State.occupancy_congr g.queue g.slot g.stopOwed]; exact h.occupancy
  quiet hstarting := by
    have q := h.quiet (by rwa [g.starting] at hstarting)
    exact ⟨by rw [g.queue]; exact q.held, fun i => g.cameras i (q.cameras i), g.top q.topIdle,
      g.composer q.composerIdle, by rw [g.slot]; exact q.slotFree, by rw [g.stopOwed]; exact q.noStop,
      g.engine q.noVerify, g.source q.topIdle q.fillShown⟩

/-- A link that holds no more messages than before. -/
theorem State.QueueLaw.setLink {s : State} (h : s.QueueLaw) (l : Link) (hl : l.queue.length ≤ s.link.queue.length) :
    (s.setLink l).QueueLaw where
  occupancy := by
    have hocc := h.occupancy
    rw [State.occupancy_eq] at hocc ⊢
    exact Nat.le_trans (Nat.add_le_add_right (Nat.add_le_add_right hl _) _) hocc
  quiet hstarting := by
    have q := h.quiet hstarting
    exact ⟨Nat.le_trans hl q.held, q.cameras, q.topIdle, q.composerIdle, q.slotFree, q.noStop, q.noVerify, q.fillShown⟩

namespace State.QueueLaw
variable {s : State} (h : s.QueueLaw)
include h

/-! What is at work shows that the memory start is over. -/

theorem running (hwork : ¬ s.Quiet) : s.starting = false :=
  Bool.eq_false_of_not_eq_true fun hstarting => hwork (h.quiet hstarting)

theorem running_of_camera (i : Fin 4) (hi : s.cams[i].state ≠ .off) : s.starting = false :=
  h.running fun q => hi (q.cameras i)

theorem running_of_top (ht : s.top.state ≠ .idle) : s.starting = false := h.running fun q => ht q.topIdle

theorem running_of_composer (hc : s.comp.state ≠ .idle) : s.starting = false := h.running fun q => hc q.composerIdle

end State.QueueLaw

/-! ### Requests (R140, R147, R149) -/

/-- A BUSY reply of the memory start, which holds at most 13 (R140). -/
theorem replyBusy_queueLaw {s : State} (kind tag : Byte) (h : s.QueueLaw) (hocc : s.occupancy < 16)
    (hheld : s.starting = true → s.link.queue.length < 13) : (s.replyStatus kind tag .busy).QueueLaw where
  occupancy := by
    rw [State.replyStatus, State.occupancy_enqueue]
    exact hocc
  quiet hstarting := by
    have q := h.quiet hstarting
    refine ⟨?_, q.cameras, q.topIdle, q.composerIdle, q.slotFree, q.noStop, q.noVerify, q.fillShown⟩
    rw [State.replyStatus, State.enqueue_link, List.length_append]
    exact hheld hstarting

theorem State.Quiet.occupancy {s : State} (q : s.Quiet) : s.occupancy = s.link.queue.length := by
  rw [State.occupancy_eq, q.slotFree, q.noStop]
  rfl

theorem passGate_queueLaw {kind tag : Byte} {body : State → State} {s : State} (h : s.QueueLaw)
    (hbody : s.starting = false → s.occupancy < 16 → (body s).QueueLaw) : (passGate kind tag body s).QueueLaw := by
  rcases passGate_cases kind tag body s with
    ⟨_, e⟩ | e | ⟨hocc, hheld, e⟩ | ⟨_, hrun, hocc, _, e⟩ | ⟨hstarting, hheld, e⟩ <;> rw [e]
  · exact h
  · exact h.setLink _ (Nat.le_refl _)
  · exact replyBusy_queueLaw kind tag h hocc hheld
  · exact hbody hrun hocc
  · exact replyBusy_queueLaw kind tag h (by rw [(h.quiet hstarting).occupancy]; omega) fun _ => hheld

/-- What the owner of a request has when it is taken: the part runs, with room for one more reply. -/
structure State.HasRoom (s : State) : Prop where
  running : s.starting = false
  room : s.occupancy < 16

theorem State.HasRoom.enqueue {s t : State} (h : s.HasRoom) (m : Message) (hstart : t.starting = s.starting)
    (hocc : t.occupancy = s.occupancy) : (t.enqueue m).QueueLaw :=
  queueLaw_enqueue m (hstart.trans h.running) (by rw [hocc]; exact h.room)

theorem arbitrate_queueLaw {s : State} (h : s.QueueLaw) : (arbitrate s).QueueLaw := h.of_atRest (.arbitrate (.refl s))

/-- A job in the slot owes one reply. -/
theorem State.HasRoom.setSlot {s t : State} (h : s.HasRoom) (j : Job) (hstart : t.starting = s.starting)
    (hocc : t.occupancy = s.occupancy) : (t.setSlot (some j)).QueueLaw := by
  refine queueLaw_of_running (hstart.trans h.running) ?_
  have hroom := h.room
  rw [← hocc, State.occupancy_eq] at hroom
  rw [State.occupancy_eq]
  change t.link.queue.length + 1 + (if t.stopOwed.isSome = true then 1 else 0) ≤ 16
  omega

theorem softReset_queueLaw (s : State) : (softReset s).QueueLaw := by
  refine queueLaw_of_running rfl ?_
  change 1 ≤ 16
  decide

section requests
variable (tag : Byte) (p : List Byte) {s : State} (h : s.HasRoom)
include h

theorem identBody_queueLaw : (identBody tag p s).QueueLaw := by
  unfold identBody
  split <;> exact h.enqueue _ rfl rfl

theorem statusBody_queueLaw : (statusBody tag p s).QueueLaw := by
  unfold statusBody
  split <;> exact h.enqueue _ rfl rfl

theorem snapshotBody_queueLaw : (snapshotBody tag p s).QueueLaw := by
  unfold snapshotBody
  split <;> exact h.enqueue _ rfl rfl

theorem historyBody_queueLaw : (historyBody tag p s).QueueLaw := by
  unfold historyBody
  split <;> exact h.enqueue _ rfl rfl

theorem noticeMaskBody_queueLaw : (noticeMaskBody tag p s).QueueLaw := by
  unfold noticeMaskBody
  repeat' split
  all_goals exact h.enqueue _ rfl rfl

theorem resetBody_queueLaw : (resetBody tag p s).QueueLaw := by
  unfold resetBody
  split
  · exact h.enqueue _ rfl rfl
  · exact softReset_queueLaw s

theorem camSetupBody_queueLaw : (camSetupBody tag p s).QueueLaw := by
  unfold camSetupBody
  dsimp only
  repeat' split
  all_goals exact h.enqueue _ rfl rfl

theorem camOnBody_queueLaw : (camOnBody tag p s).QueueLaw := by
  unfold camOnBody
  dsimp only
  repeat' split
  all_goals exact h.enqueue _ rfl rfl

theorem camOffBody_queueLaw : (camOffBody tag p s).QueueLaw := by
  unfold camOffBody
  dsimp only
  repeat' split
  all_goals exact h.enqueue _ rfl rfl

theorem outSetupBody_queueLaw : (outSetupBody tag p s).QueueLaw := by
  unfold outSetupBody
  repeat' split
  all_goals exact h.enqueue _ rfl rfl

theorem bankOpenBody_queueLaw : (bankOpenBody tag p s).QueueLaw := by
  unfold bankOpenBody
  dsimp only
  split
  · exact h.enqueue _ rfl rfl
  split
  · exact h.enqueue _ rfl rfl
  split
  · exact h.enqueue _ rfl rfl
  · exact arbitrate_queueLaw (h.setSlot _ rfl rfl)

theorem bankWriteBody_queueLaw : (bankWriteBody tag p s).QueueLaw := by
  unfold bankWriteBody
  dsimp only
  split
  · exact h.enqueue _ rfl rfl
  split
  · exact h.enqueue _ rfl rfl
  split
  · exact h.enqueue _ rfl rfl
  · exact arbitrate_queueLaw (h.setSlot _ rfl rfl)

theorem bankCloseBody_queueLaw : (bankCloseBody tag p s).QueueLaw := by
  unfold bankCloseBody
  dsimp only
  split
  · exact h.enqueue _ rfl rfl
  split
  · exact h.enqueue _ rfl rfl
  split
  · exact h.enqueue _ rfl rfl
  · exact arbitrate_queueLaw (h.enqueue _ rfl rfl)

theorem bankReadBody_queueLaw : (bankReadBody tag p s).QueueLaw := by
  unfold bankReadBody
  dsimp only
  split
  · exact h.enqueue _ rfl rfl
  split
  · exact h.enqueue _ rfl rfl
  split
  · exact h.enqueue _ rfl rfl
  · exact arbitrate_queueLaw (h.setSlot _ rfl rfl)

theorem bodyWriteBody_queueLaw : (bodyWriteBody tag p s).QueueLaw := by
  unfold bodyWriteBody
  split
  · exact h.enqueue _ rfl rfl
  split
  · exact h.enqueue _ rfl rfl
  split
  · exact h.enqueue _ rfl rfl
  · exact arbitrate_queueLaw (h.setSlot _ rfl rfl)

theorem heightTableBody_queueLaw : (heightTableBody tag p s).QueueLaw := by
  unfold heightTableBody
  repeat' split
  all_goals exact h.enqueue _ rfl rfl

theorem heightBody_queueLaw : (heightBody tag p s).QueueLaw := by
  unfold heightBody
  split <;> exact h.enqueue _ rfl rfl

theorem doorsBody_queueLaw : (doorsBody tag p s).QueueLaw := by
  unfold doorsBody
  repeat' split
  all_goals exact h.enqueue _ rfl rfl

theorem excludeBody_queueLaw : (excludeBody tag p s).QueueLaw := by
  unfold excludeBody
  repeat' split
  all_goals exact h.enqueue _ rfl rfl

theorem gainsBody_queueLaw : (gainsBody tag p s).QueueLaw := by
  unfold gainsBody
  repeat' split
  all_goals exact h.enqueue _ rfl rfl

theorem startBody_queueLaw : (startBody tag p s).QueueLaw := by
  unfold startBody
  repeat' split
  all_goals exact h.enqueue _ rfl rfl

theorem singleBody_queueLaw : (singleBody tag p s).QueueLaw := by
  unfold singleBody
  repeat' split
  all_goals exact h.enqueue _ rfl rfl

end requests

/-! ### The end of a composition (R97, R102) -/

section ends
variable {s : State} (hocc : s.occupancy ≤ 16)
include hocc

theorem settleCoverage_occupancy : (settleCoverage s).occupancy ≤ 16 := by
  unfold settleCoverage
  dsimp only
  split
  · exact hocc
  · exact State.occupancy_notice _ _ _ hocc

theorem settleShot_occupancy : (settleShot s).occupancy ≤ 16 := by
  unfold settleShot
  split
  · exact State.occupancy_notice _ _ _ hocc
  · exact hocc

/-- The owed reply of a STOP takes its own place in the queue (R151). -/
theorem payStop_occupancy : (payStop s).occupancy ≤ 16 := by
  unfold payStop
  split
  · next tag howed =>
    rw [State.replyOk, State.occupancy_enqueue]
    rw [State.occupancy_eq, howed] at hocc
    rw [State.occupancy_eq]
    change s.link.queue.length + (if s.slot.isSome = true then 1 else 0) + 0 + 1 ≤ 16
    simp only [Option.isSome_some, if_true] at hocc
    omega
  · exact hocc

theorem frameComplete_occupancy : (frameComplete s).occupancy ≤ 16 := by
  unfold frameComplete
  dsimp only
  rw [State.occupancy_setComp]
  refine settleShot_occupancy (settleCoverage_occupancy ?_)
  refine le_of_eq_of_le (State.occupancy_congr ?_ ?_ ?_) hocc <;> simp

theorem abandonEnd_occupancy : (abandonEnd s).occupancy ≤ 16 := by
  unfold abandonEnd
  dsimp only
  refine payStop_occupancy ?_
  refine le_of_eq_of_le (State.occupancy_congr ?_ ?_ ?_) hocc <;> simp

theorem settleEnd_occupancy : (settleEnd s).occupancy ≤ 16 := by
  unfold settleEnd
  split
  · split
    · exact frameComplete_occupancy hocc
    · exact abandonEnd_occupancy hocc
    · exact hocc
  · exact hocc

end ends

theorem settleEnd_starting (s : State) : (settleEnd s).starting = s.starting := by
  unfold State.starting
  rw [settleEnd_memStart]

/-- A composition's end finds a composer that is not IDLE, so the memory start is over. -/
theorem settleEnd_queueLaw {s : State} (h : s.QueueLaw) : (settleEnd s).QueueLaw := by
  by_cases hidle : s.comp.state = .idle
  · have hsame : settleEnd s = s := by
      unfold settleEnd
      rw [hidle]
      exact ite_self _
    rwa [hsame]
  · exact queueLaw_of_running ((settleEnd_starting s).trans (h.running_of_composer hidle))
      (settleEnd_occupancy h.occupancy)

theorem abandonBegin_occupancy (s : State) : (abandonBegin s).occupancy = s.occupancy :=
  State.occupancy_congr (by simp) (by simp) (by simp)

theorem stopBody_queueLaw (tag : Byte) (p : List Byte) {s : State} (h : s.HasRoom) : (stopBody tag p s).QueueLaw := by
  unfold stopBody
  split
  · exact h.enqueue _ rfl rfl
  split
  · exact h.enqueue _ rfl rfl
  split
  · have howed : (s.haltTop.setStopOwed (some tag)).occupancy ≤ 16 := by
      have hroom := h.room
      rw [State.occupancy_eq] at hroom ⊢
      change s.link.queue.length + (if s.slot.isSome = true then 1 else 0) + 1 ≤ 16
      omega
    refine queueLaw_of_running ?_ (settleEnd_occupancy ?_)
    · rw [settleEnd_starting]
      unfold State.starting
      rw [abandonBegin_memStart]
      exact h.running
    · rwa [abandonBegin_occupancy]
  · exact h.enqueue _ rfl rfl

/-- Every owner of a request adds at most one reply, queued or owed. -/
theorem requestBody_queueLaw (kind tag : Byte) (p : List Byte) {s : State} (h : s.HasRoom) :
    (requestBody kind tag p s).QueueLaw := by
  unfold requestBody
  refine ite_keeps (P := State.QueueLaw) (identBody_queueLaw _ _ h) ?_
  refine ite_keeps (P := State.QueueLaw) (statusBody_queueLaw _ _ h) ?_
  refine ite_keeps (P := State.QueueLaw) (snapshotBody_queueLaw _ _ h) ?_
  refine ite_keeps (P := State.QueueLaw) (historyBody_queueLaw _ _ h) ?_
  refine ite_keeps (P := State.QueueLaw) (noticeMaskBody_queueLaw _ _ h) ?_
  refine ite_keeps (P := State.QueueLaw) (resetBody_queueLaw _ _ h) ?_
  refine ite_keeps (P := State.QueueLaw) (camSetupBody_queueLaw _ _ h) ?_
  refine ite_keeps (P := State.QueueLaw) (camOnBody_queueLaw _ _ h) ?_
  refine ite_keeps (P := State.QueueLaw) (camOffBody_queueLaw _ _ h) ?_
  refine ite_keeps (P := State.QueueLaw) (outSetupBody_queueLaw _ _ h) ?_
  refine ite_keeps (P := State.QueueLaw) (bankOpenBody_queueLaw _ _ h) ?_
  refine ite_keeps (P := State.QueueLaw) (bankWriteBody_queueLaw _ _ h) ?_
  refine ite_keeps (P := State.QueueLaw) (bankCloseBody_queueLaw _ _ h) ?_
  refine ite_keeps (P := State.QueueLaw) (bankReadBody_queueLaw _ _ h) ?_
  refine ite_keeps (P := State.QueueLaw) (bodyWriteBody_queueLaw _ _ h) ?_
  refine ite_keeps (P := State.QueueLaw) (heightTableBody_queueLaw _ _ h) ?_
  refine ite_keeps (P := State.QueueLaw) (heightBody_queueLaw _ _ h) ?_
  refine ite_keeps (P := State.QueueLaw) (doorsBody_queueLaw _ _ h) ?_
  refine ite_keeps (P := State.QueueLaw) (gainsBody_queueLaw _ _ h) ?_
  refine ite_keeps (P := State.QueueLaw) (excludeBody_queueLaw _ _ h) ?_
  refine ite_keeps (P := State.QueueLaw) (startBody_queueLaw _ _ h) ?_
  refine ite_keeps (P := State.QueueLaw) (stopBody_queueLaw _ _ h) ?_
  refine ite_keeps (P := State.QueueLaw) (singleBody_queueLaw _ _ h) ?_
  exact h.enqueue _ rfl rfl

theorem takeRequest_queueLaw (kind tag : Byte) (p : List Byte) {s : State} (h : s.QueueLaw) :
    (takeRequest kind tag p s).QueueLaw :=
  passGate_queueLaw h fun hrun hocc => requestBody_queueLaw kind tag p ⟨hrun, hocc⟩

end Sys2Proof.Machine
end

section
/-! The queue's law at the events and at every step; and every law right after a pin reset (Section 9.3). -/

namespace Sys2Proof.Machine

/-! ### Camera events (R48 to R58) -/

theorem Camera.takeLine_state (c : Camera) (bytes : List Byte) : (c.takeLine bytes).state = c.state := by
  unfold Camera.takeLine
  repeat' split
  all_goals rfl

theorem Camera.burstDone_state (c : Camera) (n : Nat) : (c.burstDone n).state = c.state := by
  unfold Camera.burstDone
  repeat' split
  all_goals rfl

theorem Camera.selected_state (c : Camera) (i : Fin 4) (p : Params) (now : Word) :
    (c.selected i p now).state = c.state := by
  rcases c.selected_cases i p now with e | ⟨_, _, e⟩ <;> rw [e]

section cameraEvents
variable (i : Fin 4) {s : State} (h : s.QueueLaw)
include h

theorem frameStartEvent_queueLaw : (frameStartEvent i s).QueueLaw := by
  unfold frameStartEvent
  dsimp only
  split
  · exact h
  · next hstate =>
    have hrun : s.starting = false := h.running_of_camera i (by rw [hstate]; exact nofun)
    refine State.QueueLaw.of_atRest (s := (s.setCam i s.cams[i].reacquire).cameraNotice i)
      (queueLaw_notice .camera _ hrun h.occupancy) (.setCam i (fun hoff => ?_) (.refl _))
    rw [State.cameraNotice, State.notice_cams, State.setCam_get_same, Camera.reacquire, if_pos hstate] at hoff
    cases hoff
  · next hstate => exact queueLaw_of_running (h.running_of_camera i (by rw [hstate]; exact nofun)) h.occupancy
  · next hstate => exact queueLaw_of_running (h.running_of_camera i (by rw [hstate]; exact nofun)) h.occupancy

theorem lineEvent_queueLaw (bytes : List Byte) : (lineEvent i bytes s).QueueLaw := by
  unfold lineEvent
  split
  · exact h
  · refine h.of_atRest (.arbitrate (.setCam i ?_ (.refl s)))
    rw [Camera.takeLine_state]
    exact id

theorem frameEndEvent_queueLaw : (frameEndEvent i s).QueueLaw := by
  unfold frameEndEvent
  dsimp only
  split
  · exact h
  · next hstate =>
    have hrun : s.starting = false := h.running_of_camera i hstate
    split
    · exact queueLaw_notice .camera _ hrun h.occupancy
    · exact queueLaw_of_running hrun h.occupancy

theorem lossTimerExpiryEvent_queueLaw : (lossTimerExpiryEvent i s).QueueLaw := by
  unfold lossTimerExpiryEvent
  split
  · next hexpired =>
    have hrun : s.starting = false := h.running_of_camera i fun hoff => by
      rw [Camera.expired, hoff] at hexpired
      simp at hexpired
    exact queueLaw_notice .camera _ hrun h.occupancy
  · exact h

end cameraEvents

/-! ### Marks and selections (R68, R74) -/

theorem Composer.SamePhase.idle_of_idle {c d : Composer} (h : c.SamePhase d) : c.state = .idle → d.state = .idle :=
  h.idle.mpr

theorem selectCamera_atRest (i : Fin 4) (s : State) : s.AtRest (selectCamera i s) := by
  refine .setComp (t := (s.setCam i _).setTimer _) ?_ ?_
  · exact fun hidle => (selectCamera_phase i s).idle.mpr hidle
  · have hcam : s.AtRest (s.setCam i (s.cams[i].selected i s.active s.timer.timebase)) :=
      .setCam i (by rw [Camera.selected_state]; exact id) (.refl s)
    exact hcam.trans ⟨rfl, rfl, rfl, rfl, fun _ => id, id, id, id, fun _ => id⟩

theorem selectionEvent_atRest (i : Fin 4) (s : State) : s.AtRest (selectionEvent i s) := by
  unfold selectionEvent
  split
  · exact selectCamera_atRest i s
  · exact .refl s

theorem Output.refill_source (o : Output) : o.refill.source = o.source := by
  unfold Output.refill
  split <;> rfl

/-- In IDLE the rotation leaves no SCANNING slot, so the picture is a fill picture (R116, R119). -/
theorem Output.scanning_rotate_idle (o : Output) : (o.rotate .idle).scanning = none := by
  refine List.find?_eq_none.mpr fun k _ => ?_
  rw [Output.rotate_get, if_pos (.inl rfl)]
  split <;> cases o.slots[k] <;> simp [OutSlot.rotate, OutSlot.unscan, OutSlot.isScanning]

theorem markDisplay_wrap_atRest (s : State) : s.AtRest (markDisplay (s.setTimer s.timer.wrap)) := by
  refine ⟨rfl, rfl, rfl, rfl, fun _ => id, id, id, id, fun htop _ => ?_⟩
  change (s.out.rotate s.top.state).newPicture.source = none
  rw [Output.newPicture, Output.refill_source, htop]
  exact s.out.scanning_rotate_idle

theorem compositionStart_occupancy (k : Fin 3) (s : State) :
    (compositionStart k s).starting = s.starting ∧ (compositionStart k s).occupancy = s.occupancy :=
  compositionStart_cases k s (fun t => t.starting = s.starting ∧ t.occupancy = s.occupancy)
    ⟨by simp only [State.starting, compositionOpen_memStart], State.occupancy_congr (by rw [compositionOpen_link])
      (compositionOpen_slot k s) (compositionOpen_stopOwed k s)⟩
    fun i t ht => ⟨(selectCamera_atRest i t).starting.trans ht.1,
      (State.occupancy_congr (selectCamera_atRest i t).queue (selectCamera_atRest i t).slot
        (selectCamera_atRest i t).stopOwed).trans ht.2⟩

theorem missedMark_queueLaw {s : State} (hrun : s.starting = false) (hocc : s.occupancy ≤ 16) :
    (missedMark s).QueueLaw := by
  unfold missedMark
  dsimp only
  split
  · exact queueLaw_of_running hrun hocc
  · exact queueLaw_notice .late _ hrun hocc

theorem settleMark_queueLaw {s t : State} (h : s.QueueLaw) (e : settleMark s = .next t) : t.QueueLaw := by
  unfold settleMark at e
  split at e
  · next hwants =>
    have hrun : s.starting = false := h.running_of_top fun hidle => by
      rcases s.top.wants_top hwants with htop | htop <;> rw [hidle] at htop <;> cases htop
    split at e
    · split at e
      · exact nomatch e
      · exact nomatch e
      · next k _ _ _ =>
        cases e
        obtain ⟨hstart, hocc⟩ := compositionStart_occupancy k s
        exact arbitrate_queueLaw (queueLaw_of_running (hstart.trans hrun) (hocc.trans_le h.occupancy))
    · cases e
      exact arbitrate_queueLaw (missedMark_queueLaw hrun h.occupancy)
  · cases e
    exact h.of_atRest (.arbitrate ⟨rfl, rfl, rfl, rfl, fun _ => id, id, id, id, fun _ => id⟩)

/-! ### Tiles (R88, R95) -/

theorem tileDecision_atRest {s t : State} (e : tileDecision s = .next t) : s.AtRest t := by
  unfold tileDecision at e
  dsimp only at e
  split at e
  · next hissuing =>
    split at e
    · split at e <;> cases e
      refine .arbitrate (.setComp (fun hidle => ?_) (.refl s))
      rw [hissuing.1] at hidle
      cases hidle
    · cases e
      exact .refl s
  · cases e
    exact .refl s

theorem sampleArithmeticDone_atRest (s : State) : s.AtRest (sampleArithmeticDone s) := by
  unfold sampleArithmeticDone
  split
  · refine .arbitrate ((State.AtRest.setComp ?_ (.refl s)).trans
      ⟨rfl, rfl, rfl, rfl, fun _ => id, id, id, id, fun _ => id⟩)
    exact Composer.SamePhase.idle_of_idle (c := s.comp) (.advance s.active (.of_eq rfl rfl))
  · exact .refl s

/-! ### A completed burst (R129) -/

section bursts
variable {s : State} (h : s.QueueLaw)
include h

theorem storeBurstDone_queueLaw (n : Nat) : (storeBurstDone n s).QueueLaw := by
  unfold storeBurstDone
  split
  · exact h
  · refine settleEnd_queueLaw (h.of_atRest (.setComp ?_ (.refl s)))
    refine Composer.SamePhase.idle_of_idle (c := s.comp) (.advance s.active ?_)
    split <;> exact .of_eq rfl rfl

theorem fetchBurstDone_queueLaw (read : List Byte) : (fetchBurstDone read s).QueueLaw := by
  unfold fetchBurstDone
  split
  · refine h.of_atRest (.setComp ?_ (.refl s))
    exact Composer.SamePhase.idle_of_idle (c := s.comp) (.advance s.active (.of_eq rfl rfl))
  · exact h

theorem sampleBurstDone_queueLaw (read : List Byte) : (sampleBurstDone read s).QueueLaw := by
  unfold sampleBurstDone
  split
  · exact h.of_atRest (.setComp id (.refl s))
  · exact h

/-- The owed reply of the slot's job takes its own place in the queue (R149, R151). -/
theorem jobBurstDone_queueLaw (n : Nat) (read : List Byte) : (jobBurstDone n read s).QueueLaw := by
  unfold jobBurstDone
  split
  · exact h
  · next j hj =>
    have hrun : s.starting = false := h.running fun q => by
      rw [q.slotFree] at hj
      cases hj
    have hocc := h.occupancy
    rw [State.occupancy_eq, hj] at hocc
    simp only [Option.isSome_some, if_true] at hocc
    dsimp only
    split
    · refine queueLaw_enqueue _ hrun ?_
      rw [State.occupancy_eq]
      change s.link.queue.length + 0 + (if s.stopOwed.isSome = true then 1 else 0) < 16
      omega
    · refine queueLaw_of_running hrun ?_
      rw [State.occupancy_eq]
      exact hocc

theorem verifyBurstDone_queueLaw (read : List Byte) : (verifyBurstDone read s).QueueLaw := by
  unfold verifyBurstDone
  split
  · exact h
  · next e he =>
    have hrun : s.starting = false := h.running fun q => by
      rw [q.noVerify] at he
      cases he
    dsimp only
    split
    · exact queueLaw_notice .bankResult _ hrun h.occupancy
    · exact queueLaw_of_running hrun h.occupancy

/-- STARTED joins at most 13 held replies, and none is owed (R140). -/
theorem fillBurstDone_queueLaw : (fillBurstDone s).QueueLaw := by
  unfold fillBurstDone
  split
  · next k hfill =>
    have q : s.Quiet := h.quiet ((State.starting_eq_true_iff s).mpr (by rw [hfill]; exact nofun))
    split
    · refine queueLaw_of_running rfl ?_
      rw [State.occupancy_eq]
      change s.link.queue.length + 1 + (if s.slot.isSome = true then 1 else 0) +
        (if s.stopOwed.isSome = true then 1 else 0) ≤ 16
      have hheld := q.held
      rw [q.slotFree, q.noStop]
      change s.link.queue.length + 1 ≤ 16
      omega
    · exact ⟨h.occupancy, fun _ =>
        ⟨q.held, q.cameras, q.topIdle, q.composerIdle, q.slotFree, q.noStop, q.noVerify, q.fillShown⟩⟩
  · exact h

theorem creditBurst_queueLaw (b : Burst) (read : List Byte) : (creditBurst b read s).QueueLaw := by
  unfold creditBurst
  cases b.client with
  | scan line =>
    refine h.of_atRest (.setOut (fun _ hsource => ?_) (.refl s))
    rw [Output.receive, Output.refill_source]
    exact hsource
  | camera i => exact h.of_atRest (.setCam i (by rw [Camera.burstDone_state]; exact id) (.refl s))
  | store => exact storeBurstDone_queueLaw h _
  | sample => exact sampleBurstDone_queueLaw h _
  | fetch => exact fetchBurstDone_queueLaw h _
  | tileMap m => exact h.of_atRest (.setComp id (.refl s))
  | job => exact jobBurstDone_queueLaw h _ _
  | verify => exact verifyBurstDone_queueLaw h _
  | bodyFill => exact fillBurstDone_queueLaw h

theorem burstComplete_queueLaw : (burstComplete s).QueueLaw := by
  unfold burstComplete
  split
  · exact h
  · next b _ =>
    have hland : (landBurst b s).QueueLaw := h.of_atRest (.landBurst b (.refl s))
    dsimp only
    split
    · exact hland
    · refine State.QueueLaw.of_atRest ?_ (.arbitrate (.resumeFill (.refl _)))
      split
      · exact creditBurst_queueLaw hland b _
      · exact hland

end bursts

/-! ### Windows, display and clock (R67, R120, R146) -/

theorem closeWindow_length (n : Nat) (w : Window) (l : Link) :
    (closeWindow n w l).queue.length ≤ l.queue.length := by
  unfold closeWindow
  split
  · change (if _ then _ else _ : List Message).length ≤ _
    split
    · rw [List.length_tail]
      omega
    · exact Nat.le_refl _
  · exact Nat.le_refl _

/-- A window's bytes are a request, one link error, or nothing (R147). -/
theorem settleInbound_cases (bs : List Byte) (s : State) : settleInbound bs s = s ∨ settleInbound bs s = s.linkError ∨
    ∃ kind tag p, settleInbound bs s = takeRequest kind tag p s := by
  unfold settleInbound
  repeat' split
  · exact .inl rfl
  · exact .inl rfl
  · exact .inr (.inl rfl)
  · exact .inr (.inl rfl)
  · exact .inr (.inl rfl)
  · exact .inr (.inl rfl)
  · exact .inr (.inl rfl)
  · exact .inr (.inr ⟨_, _, _, rfl⟩)

theorem selectWindowEnd_queueLaw (bs : List Byte) {s : State} (h : s.QueueLaw) : (selectWindowEnd bs s).QueueLaw := by
  unfold selectWindowEnd
  split
  · exact h
  · have hclosed := h.setLink _ (closeWindow_length bs.length ‹_› s.link)
    rcases settleInbound_cases bs (s.setLink (closeWindow bs.length ‹_› s.link)) with e | e | ⟨_, _, _, e⟩ <;> rw [e]
    · exact hclosed
    · exact hclosed.setLink _ (Nat.le_refl _)
    · exact takeRequest_queueLaw _ _ _ hclosed

theorem selectWindowStart_queueLaw {s : State} (h : s.QueueLaw) : (selectWindowStart s).QueueLaw := by
  unfold selectWindowStart
  split
  · exact h
  · exact h.setLink _ (Nat.le_refl _)

theorem dramInOperation_atRest (s : State) : s.AtRest (dramInOperation s) := by
  unfold dramInOperation
  split
  · next hbring =>
    refine .resumeFill ⟨?_, rfl, rfl, rfl, fun _ => id, id, id, id, fun _ => id⟩
    unfold State.starting
    rw [hbring]
    rfl
  · exact .refl s

theorem lineTimeEndEvent_atRest (s : State) : s.AtRest (lineTimeEndEvent s) := by
  unfold lineTimeEndEvent
  split
  · refine .arbitrate (.setOut (fun _ hsource => ?_) (.refl s))
    rw [Output.endLine, Output.refill_source]
    exact hsource
  · exact .refl s

/-- An underrun finds a picture from a slot, so the memory start is over. -/
theorem lineUnderrunEvent_queueLaw {s : State} (h : s.QueueLaw) : (lineUnderrunEvent s).QueueLaw := by
  unfold lineUnderrunEvent
  split
  · next k p hsource _ =>
    have hrun : s.starting = false := h.running fun q => by
      rw [q.fillShown] at hsource
      cases hsource
    split
    · dsimp only
      refine arbitrate_queueLaw ?_
      split
      · exact queueLaw_of_running hrun h.occupancy
      · exact queueLaw_notice .underrun _ hrun h.occupancy
    · exact h
  · exact h

theorem tick_atRest (s : State) : s.AtRest (tick s) := by
  unfold tick
  split
  · exact .refl s
  · refine ⟨rfl, rfl, rfl, rfl, fun i hi => ?_, id, id, id, fun _ => id⟩
    change (s.cams.map Camera.countDown)[i].state = .off
    rw [Fin.getElem_fin, Vector.getElem_map]
    exact hi

/-! ### Every step -/

theorem pinReset_queueLaw (s : State) : (pinReset s).QueueLaw := by
  have hoff : ∀ i : Fin 4, State.reset.cams[i].state = .off := by decide
  exact ⟨by change 0 ≤ 16; decide, fun _ => ⟨by change 0 ≤ 13; decide, hoff, rfl, rfl, rfl, rfl, rfl, rfl⟩⟩

theorem unlessAsserted_queueLaw {s : State} {f : State → State} (h : s.QueueLaw) (hf : (f s).QueueLaw) :
    (s.unlessAsserted f).QueueLaw := by
  unfold State.unlessAsserted
  split <;> assumption

theorem exec_queueLaw {i : Instr} {s t : State} (h : s.QueueLaw) (e : exec i s = .next t) : t.QueueLaw := by
  by_cases hreq : ∃ kind tag p, i.request? = some (kind, tag, p)
  · obtain ⟨kind, tag, p, hreq⟩ := hreq
    rw [exec_request hreq] at e
    cases e
    exact takeRequest_queueLaw kind tag p h
  cases i
  case pinReset => cases e; exact pinReset_queueLaw s
  case dramInOperation => cases e; exact unlessAsserted_queueLaw h (h.of_atRest (dramInOperation_atRest s))
  case selectWindowStart => cases e; exact unlessAsserted_queueLaw h (selectWindowStart_queueLaw h)
  case selectWindowEnd bs => cases e; exact unlessAsserted_queueLaw h (selectWindowEnd_queueLaw bs h)
  case frameStart i => cases e; exact unlessAsserted_queueLaw h (frameStartEvent_queueLaw i h)
  case line i bs => cases e; exact unlessAsserted_queueLaw h (lineEvent_queueLaw i h bs)
  case frameEnd i => cases e; exact unlessAsserted_queueLaw h (frameEndEvent_queueLaw i h)
  case lossTimerExpiry i => cases e; exact unlessAsserted_queueLaw h (lossTimerExpiryEvent_queueLaw i h)
  case cadenceMark =>
    change execCadenceMark s = .next t at e
    unfold execCadenceMark at e
    split at e
    · cases e; exact h
    · exact settleMark_queueLaw (h.of_atRest (markDisplay_wrap_atRest s)) e
  case selectionEvent i => cases e; exact unlessAsserted_queueLaw h (h.of_atRest (selectionEvent_atRest i s))
  case tileDecision =>
    change execTileDecision s = .next t at e
    unfold execTileDecision at e
    split at e
    · cases e; exact h
    · exact h.of_atRest (tileDecision_atRest e)
  case sampleArithmeticDone => cases e; exact unlessAsserted_queueLaw h (h.of_atRest (sampleArithmeticDone_atRest s))
  case burstComplete => cases e; exact burstComplete_queueLaw h
  case lineTimeEnd => cases e; exact unlessAsserted_queueLaw h (h.of_atRest (lineTimeEndEvent_atRest s))
  case lineUnderrun => cases e; exact unlessAsserted_queueLaw h (lineUnderrunEvent_queueLaw h)
  case resetInputAsserted =>
    cases e
    exact h.of_atRest ⟨rfl, rfl, rfl, rfl, fun _ => id, id, id, id, fun _ => id⟩
  all_goals exact absurd ⟨_, _, _, rfl⟩ hreq

/-- Settles O50: a request is taken only below 16 and adds one reply, queued or owed; an owed reply takes its own place;
a notice asks for two free places; and during a memory start nothing is at work that could add a message. -/
theorem everyStepKeepsTheQueueWithinSixteen : Obligations.EveryStepKeepsTheQueueWithinSixteen := by
  unfold Obligations.EveryStepKeepsTheQueueWithinSixteen
  intro s t h e
  unfold step at e
  split at e
  · cases e
    exact h.of_atRest (tick_atRest s)
  · next c rest _ =>
    have hrest : (s.setPending rest).QueueLaw :=
      h.of_atRest ⟨rfl, rfl, rfl, rfl, fun _ => id, id, id, id, fun _ => id⟩
    exact exec_queueLaw hrest e

/-- Settles O56: `State.reset` is the pin-reset state, at which each law's effects begin. -/
theorem theLawsHoldAtReset : Obligations.TheLawsHoldAtReset := by
  unfold Obligations.TheLawsHoldAtReset
  have hdir : ∀ k : Fin 8, State.reset.banks.dir[k].check? = none := by decide
  exact ⟨rfl, pinReset_queueLaw State.reset, gainLaw_of_reset rfl rfl, cadenceLaw_of_reset rfl,
    tableLaw_of_reset rfl rfl hdir rfl rfl, .of_reset rfl rfl rfl, slotLaw_of_reset rfl rfl rfl rfl,
    countLaw_of_reset rfl⟩

end Sys2Proof.Machine
end

section
/-! The front command, the gate of a request and its size (Sections 10.1, 10.2 and 11.2). -/

namespace Sys2Proof.Machine

/-- Settles O1: it is the second branch of `step`. -/
theorem stepRunsTheFrontCommand : Obligations.StepRunsTheFrontCommand := by
  unfold Obligations.StepRunsTheFrontCommand
  intro c rest s hpending
  rw [step, hpending]

/-! ### The gate (R140, R147 step 6, R149) -/

theorem State.replyStatus_eq_answeredStatus (s : State) (kind tag : Byte) (st : Status) :
    s.replyStatus kind tag st = s.answeredStatus kind tag st := by
  by_cases hknown : kind ∈ requestKinds
  · rw [State.replyStatus_eq_refused _ _ _ _ hknown, State.answeredStatus, if_pos hknown]
  · have hc : requestKinds.contains kind = false := by
      rw [← Bool.not_eq_true, List.contains_iff_mem]
      exact hknown
    simp only [State.answeredStatus, State.replyStatus, replyKind, hc, if_neg hknown]
    rfl

/-- A KIND that is none of the request kinds has no owner. -/
theorem requestBody_of_unknown (kind tag : Byte) (p : List Byte) (s : State) (h : kind ∉ requestKinds) :
    requestBody kind tag p s = s.answered 0xFF#8 tag [0x03#8, kind] := by
  have hstatus : requestBody kind tag p s = s.replyStatus kind tag .unknown := by
    simp only [requestKinds, List.mem_cons, List.not_mem_nil, or_false, not_or] at h
    simp only [requestBody, h, if_false]
  rw [hstatus, State.replyStatus_eq_answeredStatus, State.answeredStatus, if_neg h]
  rfl

section gate
variable (kind tag : Byte) (body : State → State) (s : State) (ht : s.Takes)
include ht

/-- Before STARTED a request is answered BUSY, or is a link error while 13 replies are held (R140). -/
theorem passGate_of_starting (h : s.memStart ≠ .complete) : passGate kind tag body s =
    if 13 ≤ s.link.queue.length then s.linkError else s.answeredStatus kind tag .busy := by
  have hstarting : s.starting = true := (s.starting_eq_true_iff).mpr h
  rw [passGate, if_neg (by rw [ht]; simp), if_pos hstarting, State.replyStatus_eq_answeredStatus]

/-- After it: a link error at occupancy 16, BUSY while the slot is occupied, RESET excepted, else the owner's (R147
step 6, R149). -/
theorem passGate_of_started (h : s.memStart = .complete) : passGate kind tag body s =
    if 16 ≤ s.occupancy then s.linkError
    else if s.slot.isSome ∧ kind ≠ 0x06#8 then s.answeredStatus kind tag .busy
    else body s := by
  have hstarting : s.starting = false := (s.starting_eq_false_iff).mpr h
  rw [passGate, if_neg (by rw [ht]; simp), if_neg (by rw [hstarting]; simp), State.replyStatus_eq_answeredStatus]

end gate

/-- Settles O4: the five ways through `passGate`. -/
theorem everyRequestPassesTheGateOfTheLink : Obligations.EveryRequestPassesTheGateOfTheLink := by
  unfold Obligations.EveryRequestPassesTheGateOfTheLink
  intro i kind tag p s hreq ht
  rw [exec_request hreq, takeRequest]
  constructor
  · intro hstarting
    rw [passGate_of_starting _ _ _ s ht hstarting]
    constructor
    · intro hroom
      rw [if_neg (Nat.not_le.mpr hroom)]
    · intro hfull
      rw [if_pos hfull]
      rfl
  · intro hstarted
    rw [passGate_of_started _ _ _ s ht hstarted]
    refine ⟨?full, ?busy, ?unknown⟩
    case full =>
      intro hfull
      rw [if_pos hfull]
      rfl
    case busy =>
      intro hroom hbusy hkind
      rw [if_neg (Nat.not_le.mpr hroom), if_pos ⟨hbusy, hkind⟩]
    case unknown =>
      intro hroom hfree hunknown _
      rw [if_neg (Nat.not_le.mpr hroom), if_neg (by rw [hfree]; simp), requestBody_of_unknown _ _ _ _ hunknown]

/-! ### The size of a payload (R157) -/

/-- An accepted request goes to its KIND's owner. -/
theorem exec_of_accepts {i : Instr} {kind tag : Byte} {p : List Byte} {s : State}
    (hreq : i.request? = some (kind, tag, p)) (hs : s.Accepts) : exec i s = .next (requestBody kind tag p s) := by
  rw [exec_request hreq, takeRequest, passGate_of_accepts _ _ _ s hs]

/-- An owner's first test is the size of its payload. -/
theorem requestBody_of_wrongSize (kind tag : Byte) (p : List Byte) (s : State) (hkind : kind ∈ requestKinds)
    (hsize : sizeRight kind p = false) : requestBody kind tag p s = s.replyStatus kind tag .length := by
  by_cases htable : kind = 0x30#8
  · subst htable
    change heightTableBody tag p s = _
    refine if_pos ?_
    cases p with
    | nil => exact .inl rfl
    | cons count rest => exact .inr (of_decide_eq_false hsize)
  by_cases hbank : kind = 0x21#8
  · subst hbank
    change bankWriteBody tag p s = _
    have hsize' := of_decide_eq_false hsize
    exact if_pos (by omega)
  by_cases hbody : kind = 0x24#8
  · subst hbody
    change bodyWriteBody tag p s = _
    have hsize' := of_decide_eq_false hsize
    exact if_pos (by omega)
  simp only [requestKinds, List.mem_cons, List.not_mem_nil, htable, hbank, hbody, or_false, false_or] at hkind
  rcases hkind with rfl | rfl | rfl | rfl | rfl | rfl | rfl | rfl | rfl | rfl | rfl | rfl | rfl | rfl | rfl | rfl |
    rfl | rfl | rfl | rfl
  all_goals exact if_pos (of_decide_eq_false hsize)

/-- Settles O5: every owner's first test is the size of Table 11-4. -/
theorem wrongSizeIsRefusedWithLength : Obligations.WrongSizeIsRefusedWithLength := by
  unfold Obligations.WrongSizeIsRefusedWithLength
  intro i kind tag p s hreq hkind hsize hs
  rw [exec_of_accepts hreq hs, requestBody_of_wrongSize _ _ _ _ hkind hsize, State.replyStatus_eq_refused _ _ _ _ hkind]

end Sys2Proof.Machine
end

section
/-! GAINS, OUT_SETUP and CAM_SETUP (Sections 3.1, 4.2 and 4.6): what their payloads carry and their outcomes. -/

namespace Sys2Proof.Machine

/-! ### GAINS (R81) -/

theorem modeOf_code {n : Nat} (h : n ≤ 1) : (modeOf n).code = BitVec.ofNat 8 n := by
  interval_cases n <;> rfl

theorem modeOf_toNat (m : Byte) : modeOf m.toNat = if m = 0#8 then .auto else .manual := by
  have hzero : m.toNat = 0 ↔ m = 0#8 := BitVec.toNat_inj (y := 0#8)
  simp only [modeOf, hzero]

theorem toList_four {α : Type} (v : Vector α 4) : v.toList = [v[0], v[1], v[2], v[3]] := by
  refine List.ext_getElem (by simp) fun i hi _ => ?_
  have hlt : i < 4 := by simpa using hi
  interval_cases i <;> rw [Vector.getElem_toList] <;> rfl

/-- Settles O16: the payload's gains are clamped, and the reply's data are the four staged gains and the mode. -/
theorem gainsStagesClampedGains : Obligations.GainsStagesClampedGains := by
  unfold Obligations.GainsStagesClampedGains
  intro tag a0 a1 b0 b1 c0 c1 d0 d1 m s hs g
  have hbody : exec (.gains tag [a0, a1, b0, b1, c0, c1, d0, d1, m]) s =
      .next (gainsBody tag [a0, a1, b0, b1, c0, c1, d0, d1, m] s) :=
    congrArg Host.Outcome.next (passGate_of_accepts 0x33#8 tag _ s hs)
  rw [hbody]
  have hmode : u8At [a0, a1, b0, b1, c0, c1, d0, d1, m] 8 = m.toNat := rfl
  constructor
  · intro hbad
    rw [gainsBody, if_neg (by simp), if_pos (by exact hbad), State.replyStatus_eq_refused _ _ _ _ (by decide)]
  · intro hgood
    have hgains : gainsOf [a0, a1, b0, b1, c0, c1, d0, d1, m] = g := by
      simp only [g, Vector.map_mk, List.map_toArray, List.map_cons, List.map_nil]
      rfl
    have hcode : (modeOf m.toNat).code = m := by rw [modeOf_code hgood, BitVec.ofNat_toNat, BitVec.setWidth_eq]
    rw [gainsBody, if_neg (by simp), if_neg (by rw [hmode]; omega), State.replyOk_eq_answered _ _ _ _ (by decide),
      hgains, hmode, ← modeOf_toNat]
    simp only [gainsData, hcode, toList_four]
    rfl

/-! ### OUT_SETUP (R69) -/

theorem timingOf_inRange_iff (p : List Byte) : (timingOf p).inRange = true ↔
    16667 ≤ (timingOf p).period ∧ (timingOf p).period ≤ 100000 ∧
      ∀ i : Fin 4, (timingOf p).offsets[i] < (timingOf p).period := by
  have hall : (timingOf p).offsets.toList.all (fun o => decide (o < (timingOf p).period)) = true ↔
      ∀ i : Fin 4, (timingOf p).offsets[i] < (timingOf p).period := by
    simp only [List.all_eq_true, Vector.mem_toList_iff, Vector.mem_iff_getElem, decide_eq_true_eq]
    exact ⟨fun h i => h _ ⟨i.val, i.isLt, rfl⟩, fun h _ ⟨j, hj, hx⟩ => hx ▸ h ⟨j, hj⟩⟩
  rw [Timing.inRange, Bool.and_eq_true, decide_eq_true_eq, hall, and_assoc]

/-- Settles O17: the top state is tested first, then the ranges; the accepted timing is pending only. -/
theorem outSetupWaitsForTheNextMark : Obligations.OutSetupWaitsForTheNextMark := by
  unfold Obligations.OutSetupWaitsForTheNextMark
  intro tag p s hs hlen period offs limit inRange
  have hbody : exec (.outSetup tag p) s = .next (outSetupBody tag p s) :=
    congrArg Host.Outcome.next (passGate_of_accepts 0x18#8 tag _ s hs)
  have hrange : ((timingOf p).inRange = false ∨ 60 < u8At p 26) ↔ ¬ inRange := by
    have hin : inRange ↔ (timingOf p).inRange = true ∧ ¬ 60 < u8At p 26 := by
      rw [timingOf_inRange_iff, Nat.not_lt, and_assoc, and_assoc]
      rfl
    rw [hin, not_and_or, not_not, Bool.not_eq_true]
  rw [hbody, outSetupBody, if_neg (by omega)]
  refine ⟨?state, ?range, ?accepted⟩
  case state =>
    intro htop
    rw [if_pos htop, State.replyStatus_eq_refused _ _ _ _ (by decide)]
  case range =>
    intro htop hbad
    rw [if_neg (not_not.mpr htop), if_pos (hrange.mpr hbad), State.replyStatus_eq_refused _ _ _ _ (by decide)]
  case accepted =>
    intro htop hgood
    rw [if_neg (not_not.mpr htop), if_neg (hrange.not.mpr (not_not.mpr hgood)),
      State.replyOk_eq_answered _ _ _ _ (by decide)]
    rfl

/-! ### CAM_SETUP (R44) -/

theorem Setup.inRange_iff (r : Setup) : r.inRange = true ↔
    (320 ≤ r.width ∧ r.width ≤ 1280 ∧ r.width % 16 = 0) ∧ (240 ≤ r.height ∧ r.height ≤ 960 ∧ r.height % 8 = 0) ∧
      (1 ≤ r.acquire ∧ r.acquire ≤ 8) ∧ (20 ≤ r.lossMs ∧ r.lossMs ≤ 1000) ∧ (10 ≤ r.staleMs ∧ r.staleMs ≤ 250) := by
  simp only [Setup.inRange, Bool.and_eq_true, decide_eq_true_eq, and_assoc]

/-- Settles O20: the camera number, the camera's state and the fields are tested in this order. -/
theorem camSetupReplacesTheRecordOfAnOffCamera : Obligations.CamSetupReplacesTheRecordOfAnOffCamera := by
  unfold Obligations.CamSetupReplacesTheRecordOfAnOffCamera
  intro tag c w0 w1 h0 h1 acq l0 l1 st s hs r inRange p
  have hbody : exec (.camSetup tag p) s = .next (camSetupBody tag p s) :=
    congrArg Host.Outcome.next (passGate_of_accepts 0x10#8 tag _ s hs)
  have hcam : u8At p 0 = c.toNat := rfl
  have hsetup : setupOf p = r := rfl
  have hrange : r.inRange = false ↔ ¬ inRange := by rw [← Bool.not_eq_true, Setup.inRange_iff]
  rw [hbody]
  constructor
  · intro hbad
    rw [camSetupBody, if_neg (by simp [p]), if_pos (by exact hbad), State.replyStatus_eq_refused _ _ _ _ (by decide)]
  · intro i hi
    have hof : Fin.ofNat 4 (u8At p 0) = i := by rw [hcam, hi, Fin.ofNat_val_eq_self]
    simp only [camSetupBody, hof, hsetup]
    rw [if_neg (by simp [p]), if_neg (by omega)]
    refine ⟨?state, ?range, ?accepted⟩
    case state =>
      intro hon
      rw [if_pos hon, State.replyStatus_eq_refused _ _ _ _ (by decide)]
    case range =>
      intro hoff hbad
      rw [if_neg (not_not.mpr hoff), if_pos (hrange.mpr hbad), State.replyStatus_eq_refused _ _ _ _ (by decide)]
    case accepted =>
      intro hoff hgood
      rw [if_neg (not_not.mpr hoff), if_neg (hrange.not.mpr (not_not.mpr hgood)),
      State.replyOk_eq_answered _ _ _ _ (by decide)]
      rfl

end Sys2Proof.Machine
end

section
/-! The requests that name a bank or a body tile (Sections 2.3, 2.4 and 7.6). -/

namespace Sys2Proof.Machine

theorem BankEntry.check?_isSome_iff (b : BankEntry) : (b.check?).isSome = true ↔ ∃ v, b = .verifying v := by
  cases b <;> simp [BankEntry.check?]

theorem listed_iff (t : Option (List TableEntry)) (b : Fin 8) :
    listed t b = true ↔ ∃ es, t = some es ∧ ∃ e ∈ es, e.bank = b := by
  cases t <;> simp [listed]

theorem State.bankInUse_iff (s : State) (b : Fin 8) : s.bankInUse b = true ↔
    (∃ es, s.staged.table = some es ∧ ∃ e ∈ es, e.bank = b) ∨
      (∃ es, s.active.table = some es ∧ ∃ e ∈ es, e.bank = b) := by
  rw [State.bankInUse, Bool.or_eq_true, listed_iff, listed_iff]

/-- Settles O22: the bank number, then the bank's state and use; the accepted bank is LOADING and its fill the slot's
job. -/
theorem bankOpenStartsAFill : Obligations.BankOpenStartsAFill := by
  unfold Obligations.BankOpenStartsAFill
  intro tag bank s hs
  have hbody : exec (.bankOpen tag [bank]) s = .next (bankOpenBody tag [bank] s) :=
    congrArg Host.Outcome.next (passGate_of_accepts 0x20#8 tag _ s hs)
  have hu : u8At [bank] 0 = bank.toNat := rfl
  rw [hbody]
  constructor
  · intro hbad
    rw [bankOpenBody, if_neg (by simp), if_pos (by exact hbad), State.replyStatus_eq_refused _ _ _ _ (by decide)]
  · intro b hb inUse
    have hof : Fin.ofNat 8 (u8At [bank] 0) = b := by rw [hu, hb, Fin.ofNat_val_eq_self]
    simp only [bankOpenBody, hof]
    rw [if_neg (by simp), if_neg (by omega)]
    constructor
    · intro hbusy
      rw [if_pos (by rwa [BankEntry.check?_isSome_iff, State.bankInUse_iff]),
        State.replyStatus_eq_refused _ _ _ _ (by decide)]
    · intro hidle hfree
      rw [if_neg]
      rw [BankEntry.check?_isSome_iff, State.bankInUse_iff]
      exact not_or.mpr ⟨not_exists.mpr hidle, hfree⟩

/-! ### BANK_WRITE and BANK_READ (R27, R29) -/

theorem BankEntry.readable_eq_false_iff (b : BankEntry) : b.readable = false ↔ b = .empty ∨ ∃ v, b = .verifying v := by
  cases b <;> simp [BankEntry.readable]

/-- Settles O23: the range tests come before the bank's state; what is accepted is the slot's job. -/
theorem bankWriteAndReadTakeTheRequestSlot : Obligations.BankWriteAndReadTakeTheRequestSlot := by
  unfold Obligations.BankWriteAndReadTakeTheRequestSlot
  intro tag bank sect o0 o1 l0 l1 data s hs off len pw pr
  have hwrite : exec (.bankWrite tag pw) s = .next (bankWriteBody tag pw s) :=
    congrArg Host.Outcome.next (passGate_of_accepts 0x21#8 tag _ s hs)
  have hread : exec (.bankRead tag pr) s = .next (bankReadBody tag pr s) :=
    congrArg Host.Outcome.next (passGate_of_accepts 0x23#8 tag _ s hs)
  have hbankw : u8At pw 0 = bank.toNat := rfl
  have hsectw : u8At pw 1 = sect.toNat := rfl
  have hoffw : u16At pw 2 = off := rfl
  have hbankr : u8At pr 0 = bank.toNat := rfl
  have hsectr : u8At pr 1 = sect.toNat := rfl
  have hoffr : u16At pr 2 = off := rfl
  have hlenr : u16At pr 4 = len := rfl
  have hdata : pw.length - 4 = data.length := by simp [pw]
  have hsize : pw.length = data.length + 4 := by simp [pw]
  rw [hwrite, hread]
  refine ⟨fun h1 h2 => ⟨?writeRange, ?write⟩, ?readRange, ?read⟩
  case writeRange =>
    intro hbad
    rw [bankWriteBody, if_neg (by omega), if_pos (by rwa [hbankw, hsectw, hoffw, hdata]),
      State.replyStatus_eq_refused _ _ _ _ (by decide)]
  case write =>
    intro b c hb hc hfits
    have hofb : Fin.ofNat 8 (u8At pw 0) = b := by rw [hbankw, hb, Fin.ofNat_val_eq_self]
    have hofc : Fin.ofNat 6 (u8At pw 1) = c := by rw [hsectw, hc, Fin.ofNat_val_eq_self]
    simp only [bankWriteBody, hofb, hofc]
    rw [if_neg (by omega), if_neg (by rw [hbankw, hsectw, hoffw, hdata, hb, hc]; omega)]
    constructor
    · intro hstate
      rw [if_pos hstate, State.replyStatus_eq_refused _ _ _ _ (by decide)]
    · intro hloading
      rw [if_neg (not_not.mpr hloading)]
      rfl
  case readRange =>
    intro hbad
    rw [bankReadBody, if_neg (by simp [pr]), if_pos (by rwa [hbankr, hsectr, hoffr, hlenr]),
      State.replyStatus_eq_refused _ _ _ _ (by decide)]
  case read =>
    intro b c hb hc h1 h2 hfits
    have hofb : Fin.ofNat 8 (u8At pr 0) = b := by rw [hbankr, hb, Fin.ofNat_val_eq_self]
    have hofc : Fin.ofNat 6 (u8At pr 1) = c := by rw [hsectr, hc, Fin.ofNat_val_eq_self]
    simp only [bankReadBody, hofb, hofc]
    rw [if_neg (by simp [pr]), if_neg (by rw [hbankr, hsectr, hoffr, hlenr, hb, hc]; omega)]
    constructor
    · intro hstate
      rw [if_pos (by rwa [BankEntry.readable_eq_false_iff]), State.replyStatus_eq_refused _ _ _ _ (by decide)]
    · intro hstate
      rw [if_neg]
      · rfl
      · rcases hstate with h | h | ⟨d, h⟩ <;> rw [h] <;> simp [BankEntry.readable]

/-! ### BANK_CLOSE (R28, R31) -/

/-- An engine at work keeps its bank, an idle one takes the head of the queue. -/
theorem Banks.takeHead_eq (dir : Vector BankEntry 8) (queue : List (Fin 8)) (engine : Option Engine) :
    Banks.takeHead ⟨dir, queue, engine⟩ = ⟨dir, queue, match engine with
      | some e => some e
      | none => queue.head?.map fun k => ⟨k, []⟩⟩ := by
  cases engine with
  | none => exact Banks.takeHead_of_idle dir queue
  | some e => rfl

/-- Settles O24: the accepted bank joins the queue's tail before an idle engine takes the head. -/
theorem bankCloseQueuesTheVerification : Obligations.BankCloseQueuesTheVerification := by
  unfold Obligations.BankCloseQueuesTheVerification
  intro tag bank c0 c1 c2 c3 s hs check p
  have hbody : exec (.bankClose tag p) s = .next (bankCloseBody tag p s) :=
    congrArg Host.Outcome.next (passGate_of_accepts 0x22#8 tag _ s hs)
  have hu : u8At p 0 = bank.toNat := rfl
  have hcheck : BitVec.ofNat 32 (u32At p 1) = check := rfl
  rw [hbody]
  constructor
  · intro hbad
    rw [bankCloseBody, if_neg (by simp [p]), if_pos (by exact hbad), State.replyStatus_eq_refused _ _ _ _ (by decide)]
  · intro b hb
    have hof : Fin.ofNat 8 (u8At p 0) = b := by rw [hu, hb, Fin.ofNat_val_eq_self]
    simp only [bankCloseBody, hof, hcheck]
    rw [if_neg (by simp [p]), if_neg (by omega)]
    constructor
    · intro hstate
      rw [if_pos hstate, State.replyStatus_eq_refused _ _ _ _ (by decide)]
    · intro hloading
      rw [if_neg (not_not.mpr hloading), Banks.takeHead_eq, State.replyStatus_eq_refused _ _ _ _ (by decide)]
      rfl

/-! ### BODY_WRITE (R125) -/

/-- Settles O25: the top state is tested before the range; what is accepted is the slot's job. -/
theorem bodyWriteTakesTheRequestSlot : Obligations.BodyWriteTakesTheRequestSlot := by
  unfold Obligations.BodyWriteTakesTheRequestSlot
  intro tag t0 t1 o0 o1 data s hs h1 h2 tile off p
  have hbody : exec (.bodyWrite tag p) s = .next (bodyWriteBody tag p s) :=
    congrArg Host.Outcome.next (passGate_of_accepts 0x24#8 tag _ s hs)
  have htile : u16At p 0 = tile := rfl
  have hoff : u16At p 2 = off := rfl
  have hdata : p.length - 4 = data.length := by simp [p]
  have hsize : p.length = data.length + 4 := by simp [p]
  rw [hbody]
  constructor
  · intro hrunning
    rw [bodyWriteBody, if_neg (by omega), if_pos hrunning, State.replyStatus_eq_refused _ _ _ _ (by decide)]
  · intro hstill
    have hnot : ¬ (s.top.state = .run ∨ s.top.state = .shot) := by
      rcases hstill with h | h <;> rw [h] <;> simp
    constructor
    · intro hbad
      rw [bodyWriteBody, if_neg (by omega), if_neg hnot, if_pos (by rwa [htile, hoff, hdata]),
        State.replyStatus_eq_refused _ _ _ _ (by decide)]
    · intro t ht hfits
      have hof : Fin.ofNat 384 (u16At p 0) = t := by rw [htile, ht, Fin.ofNat_val_eq_self]
      simp only [bodyWriteBody, hof]
      rw [if_neg (by omega), if_neg hnot, if_neg (by rw [htile, hoff, hdata]; omega)]
      rfl

end Sys2Proof.Machine
end

section
/-! Select windows (Section 10.1) and the reset input (Section 9.3). -/

namespace Sys2Proof.Machine

/-! ### The bytes of a message (Table 11-1) -/

theorem envelope_length (kind tag : Byte) (p : List Byte) : (envelope kind tag p).length = p.length + 4 := by
  simp [envelope, le16]

theorem Message.length_bytes (m : Message) : m.bytes.length = m.payload.length + 7 := by
  simp [Message.bytes, envelope_length, le16]

theorem requestMessage_length (kind tag : Byte) (p : List Byte) :
    (requestMessage kind tag p).length = p.length + 7 := by
  simp [requestMessage, envelope_length, le16]

theorem byteAt_of_length_le {bs : List Byte} {i : Nat} (h : bs.length ≤ i) : byteAt bs i = 0#8 :=
  List.getD_eq_default _ _ h

/-- The first `n` bytes after a sync byte. -/
theorem slice_cons_append (b : Byte) (as bs : List Byte) : slice (b :: (as ++ bs)) 1 as.length = as := by
  simp [slice]

/-! ### The inbound bytes of a window (R147) -/

theorem settleInbound_of_none (bs : List Byte) (s : State) (h : bs.head? = none ∨ bs.head? = some 0x00#8) :
    settleInbound bs s = s := by
  cases bs with
  | nil => rfl
  | cons b rest =>
    have hb : b = 0x00#8 := by simpa using h
    simp only [settleInbound]
    rw [if_pos hb]

theorem settleInbound_of_badSync (bs : List Byte) (s : State) (b : Byte) (h : bs.head? = some b) (h0 : b ≠ 0x00#8)
    (h5 : b ≠ 0xA5#8) : settleInbound bs s = s.linkError := by
  obtain ⟨rest, rfl⟩ : ∃ rest, bs = b :: rest := List.head?_eq_some_iff.mp h
  simp only [settleInbound]
  rw [if_neg h0, if_pos h5]

/-- After a good sync each failed test is one link error, and a message that passes them all is taken. -/
theorem settleInbound_of_sync (bs : List Byte) (s : State) (h : bs.head? = some 0xA5#8) : settleInbound bs s =
    if bs.length < 3 ∨ u16At bs 1 < 2 ∨ 1026 < u16At bs 1 ∨ bs.length < u16At bs 1 + 5 ∨
        (crc16 (slice bs 1 (u16At bs 1 + 2))).toNat ≠ u16At bs (u16At bs 1 + 3) then s.linkError
    else takeRequest (byteAt bs 3) (byteAt bs 4) (slice bs 5 (u16At bs 1 - 2)) s := by
  obtain ⟨rest, rfl⟩ : ∃ rest, bs = 0xA5#8 :: rest := List.head?_eq_some_iff.mp h
  simp only [settleInbound]
  rw [if_neg (by decide), if_neg (by decide), ite_or, ite_or, ite_or, ite_or, ite_or]

theorem exec_selectWindowEnd (bs : List Byte) (w : Window) (s : State) (ht : s.Takes) (hw : s.link.window = some w) :
    exec (.selectWindowEnd bs) s = .next (settleInbound bs (s.setLink (closeWindow bs.length w s.link))) := by
  change Host.Outcome.next (s.unlessAsserted (selectWindowEnd bs)) = _
  rw [State.unlessAsserted, if_neg (by rw [ht]; simp), selectWindowEnd, hw]

/-- Settles O7: R147's tests in their order. -/
theorem badMessageIsOneLinkError : Obligations.BadMessageIsOneLinkError := by
  unfold Obligations.BadMessageIsOneLinkError
  intro bs w s ht hw t n
  rw [exec_selectWindowEnd bs w s ht hw]
  constructor
  · intro hnone
    rw [settleInbound_of_none _ _ hnone]
  · rintro (⟨b, hb, h0, h5⟩ | ⟨hsync, hbad⟩)
    · rw [settleInbound_of_badSync _ _ b hb h0 h5]
    · rw [settleInbound_of_sync _ _ hsync, if_pos (by exact hbad)]

/-! ### A well-formed request's message (R147, R148) -/

section requestMessage
variable (kind tag : Byte) (p extra : List Byte)

theorem slice_requestMessage (n : Nat) (h : n = p.length + 4) :
    slice (requestMessage kind tag p ++ extra) 1 n = envelope kind tag p := by
  rw [h, ← envelope_length kind tag p, requestMessage, List.cons_append, List.append_assoc, slice_cons_append]

theorem u16At_requestMessage_length (h : p.length ≤ 1024) :
    u16At (requestMessage kind tag p ++ extra) 1 = p.length + 2 :=
  ofLe_le16 (p.length + 2) (by omega)

theorem u16At_requestMessage_check :
    u16At (requestMessage kind tag p ++ extra) (p.length + 2 + 3) = (crc16 (envelope kind tag p)).toNat := by
  have hplace : p.length + 2 + 3 = (0xA5#8 :: envelope kind tag p).length + 0 := by
    rw [List.length_cons, envelope_length]
  rw [u16At, hplace, requestMessage, ← List.cons_append, List.append_assoc, slice_append_right]
  exact ofLe_le16_toNat _

theorem slice_requestMessage_payload : slice (requestMessage kind tag p ++ extra) 5 p.length = p := by
  simp [requestMessage, envelope, le16, slice]

/-- The message of a request of at most 1,024 bytes passes every test of R147. -/
theorem settleInbound_requestMessage (s : State) (h : p.length ≤ 1024) :
    settleInbound (requestMessage kind tag p ++ extra) s = takeRequest kind tag p s := by
  have hlen : (requestMessage kind tag p ++ extra).length = p.length + 7 + extra.length := by
    rw [List.length_append, requestMessage_length]
  rw [settleInbound_of_sync _ _ rfl, u16At_requestMessage_length _ _ _ _ h, slice_requestMessage _ _ _ _ _ rfl,
    u16At_requestMessage_check, Nat.add_sub_cancel, slice_requestMessage_payload, if_neg (by omega)]
  rfl

end requestMessage

/-- Settles O6: the message passes every test of R147, and what is taken is its KIND, TAG and payload. -/
theorem requestMessageIsTakenFromItsWindow : Obligations.RequestMessageIsTakenFromItsWindow := by
  unfold Obligations.RequestMessageIsTakenFromItsWindow
  intro i kind tag p extra w s hreq hwf ht hw
  have hfits : p.length ≤ 1024 := by
    simp only [Instr.wf, Bool.and_eq_true, Instr.payloadFits, hreq, decide_eq_true_eq] at hwf
    exact hwf.1.1
  rw [exec_selectWindowEnd _ w s ht hw, settleInbound_requestMessage _ _ _ _ _ hfits, exec_request hreq]

/-! ### The outbound bytes of a window (R146, R153) -/

/-- Settles O8: the window holds the message itself, so a later change of the queue does not reach the line. -/
theorem windowStartFixesTheHeadMessage : Obligations.WindowStartFixesTheHeadMessage := by
  unfold Obligations.WindowStartFixesTheHeadMessage
  intro s ht hw t
  have hout : ∀ i, t.dataOut i = match (if s.memStart = .complete then s.link.queue.head? else none) with
      | some m => byteAt m.bytes i
      | none => 0#8 := by
    intro i
    simp only [t, State.dataOut, State.setLink_resetAsserted, State.setLink_link, show s.resetAsserted = false from ht]
    cases (if s.memStart = .complete then s.link.queue.head? else none) <;> rfl
  refine ⟨?start, ?head, ?zeros, fun _ _ => rfl⟩
  case start =>
    change Host.Outcome.next (s.unlessAsserted selectWindowStart) = _
    rw [State.unlessAsserted, if_neg (by rw [ht]; simp), selectWindowStart, hw]
    by_cases hstarted : s.memStart = .complete <;> simp [t, State.starting, hstarted]
  case head =>
    intro m rest hstarted hqueue body bytes i
    have hbytes : m.bytes = bytes := by simp [bytes, body, Message.bytes, envelope]
    rw [hout, hqueue, if_pos hstarted, ← hbytes, List.head?_cons]
    change byteAt m.bytes i = _
    split
    · rfl
    · next hlong => exact byteAt_of_length_le (by rw [Message.length_bytes]; omega)
  case zeros =>
    intro hzeros i
    have hnone : (if s.memStart = .complete then s.link.queue.head? else none) = none := by
      rcases hzeros with h | h
      · rw [if_neg h]
      · rw [h]
        split <;> rfl
    rw [hout, hnone]

/-- Settles O9: a window of `zeros` settles no message, so it only closes. -/
theorem windowEndRemovesTheMessageReadWhole : Obligations.WindowEndRemovesTheMessageReadWhole := by
  unfold Obligations.WindowEndRemovesTheMessageReadWhole
  refine ⟨fun m rest zeros s ht hzeros => ⟨?whole, ?none⟩, ?attn⟩
  case whole =>
    intro hw hqueue
    refine ⟨m.length_bytes, ?_⟩
    rw [exec_selectWindowEnd _ _ s ht hw, settleInbound_of_none _ _ hzeros]
    simp only [closeWindow, Message.length_bytes, hqueue, List.tail_cons]
  case none =>
    intro hw
    rw [exec_selectWindowEnd _ _ s ht hw, settleInbound_of_none _ _ hzeros]
    rfl
  case attn =>
    intro s
    simp only [State.attn, State.starting, Bool.and_eq_true, Bool.not_eq_true', decide_eq_false_iff_not, not_not,
      List.isEmpty_eq_false_iff, and_assoc]

/-! ### The reset input (R139) -/

theorem unlessAsserted_of_asserted {s : State} (f : State → State) (h : s.resetAsserted = true) :
    s.unlessAsserted f = s := if_pos h

theorem passGate_of_asserted (kind tag : Byte) (body : State → State) {s : State} (h : s.resetAsserted = true) :
    passGate kind tag body s = s := if_pos h

/-- Every command but a reset and a completed burst asks for the reset input first. -/
theorem exec_of_asserted {i : Instr} {s : State} (h : s.resetAsserted = true) (hpin : i ≠ .pinReset)
    (hinput : i ≠ .resetInputAsserted) (hburst : i ≠ .burstComplete) : exec i s = .next s := by
  by_cases hreq : ∃ kind tag p, i.request? = some (kind, tag, p)
  · obtain ⟨kind, tag, p, hreq⟩ := hreq
    rw [exec_request hreq, takeRequest, passGate_of_asserted _ _ _ h]
  cases i
  case pinReset => exact absurd rfl hpin
  case resetInputAsserted => exact absurd rfl hinput
  case burstComplete => exact absurd rfl hburst
  case cadenceMark => exact if_pos h
  case tileDecision => exact if_pos h
  case dramInOperation => exact congrArg _ (unlessAsserted_of_asserted _ h)
  case selectWindowStart => exact congrArg _ (unlessAsserted_of_asserted _ h)
  case selectWindowEnd => exact congrArg _ (unlessAsserted_of_asserted _ h)
  case frameStart => exact congrArg _ (unlessAsserted_of_asserted _ h)
  case line => exact congrArg _ (unlessAsserted_of_asserted _ h)
  case frameEnd => exact congrArg _ (unlessAsserted_of_asserted _ h)
  case lossTimerExpiry => exact congrArg _ (unlessAsserted_of_asserted _ h)
  case selectionEvent => exact congrArg _ (unlessAsserted_of_asserted _ h)
  case sampleArithmeticDone => exact congrArg _ (unlessAsserted_of_asserted _ h)
  case lineTimeEnd => exact congrArg _ (unlessAsserted_of_asserted _ h)
  case lineUnderrun => exact congrArg _ (unlessAsserted_of_asserted _ h)
  all_goals exact absurd ⟨_, _, _, rfl⟩ hreq

/-- What a completed burst leaves before anyone takes it (R129). -/
theorem landBurst_eq (b : Burst) (s : State) : landBurst b s = (match b.data with
    | some bytes => s.setMem (Memory.writeRun s.mem b.addr bytes)
    | none => s).setArb { s.arb with port := none } := by
  unfold landBurst
  cases b.data <;> rfl

theorem State.displayPixel_of_asserted {s : State} (h : s.resetAsserted = true) (n k : Nat) :
    s.displayPixel n k = none := by
  rw [State.displayPixel, if_neg (by rw [h]; simp)]

theorem State.displayPort_of_asserted {s : State} (h : s.resetAsserted = true) : s.displayPort = [] := by
  unfold State.displayPort
  split
  · exact List.filterMap_eq_nil_iff.mpr fun k _ => State.displayPixel_of_asserted h _ k
  · rfl

/-- Settles O3: everything asks for the reset input first, but a burst on the port, which lands and no more. -/
theorem nothingIsTakenWhileResetIsAsserted : Obligations.NothingIsTakenWhileResetIsAsserted := by
  unfold Obligations.NothingIsTakenWhileResetIsAsserted
  refine ⟨fun i s h => exec_of_asserted h, fun s h => ⟨?idle, ?lands, ?tick, ?attn, ?line, ?pixel, ?port⟩, fun _ => rfl⟩
  case idle =>
    intro hport
    change Host.Outcome.next (burstComplete s) = _
    rw [burstComplete, hport]
  case lands =>
    intro b hport
    change Host.Outcome.next (burstComplete s) = _
    simp only [burstComplete, hport]
    rw [if_pos h]
    exact congrArg Host.Outcome.next (landBurst_eq b s)
  case tick =>
    intro hpending
    rw [step, hpending]
    exact congrArg Host.Outcome.next (if_pos h)
  case attn => simp [State.attn, h]
  case line => simp [State.dataOut, h]
  case pixel => exact State.displayPixel_of_asserted h
  case port => exact State.displayPort_of_asserted h

end Sys2Proof.Machine
end

section
/-! STATUS and HISTORY (Sections 9.4 and 5.9): where each item stands in the reply (Tables 11-5 and 11-7). -/

namespace Sys2Proof.Machine

/-! ### Places in a run of bytes -/

theorem slice_append_left {as bs : List Byte} {i n : Nat} (h : i + n ≤ as.length) :
    slice (as ++ bs) i n = slice as i n := by
  rw [slice, List.drop_append_of_le_length (by omega), List.take_append_of_le_length (by simp; omega), slice]

theorem byteAt_append_left {as bs : List Byte} {i : Nat} (h : i < as.length) : byteAt (as ++ bs) i = byteAt as i :=
  List.getD_append _ _ _ _ h

theorem byteAt_append_right (as bs : List Byte) (i : Nat) : byteAt (as ++ bs) (as.length + i) = byteAt bs i := by
  rw [byteAt, List.getD_append_right _ _ _ _ (by omega), Nat.add_sub_cancel_left, byteAt]

theorem byteAt_map_toList {α : Type} {n : Nat} (v : Vector α n) (f : α → Byte) (k : Fin n) :
    byteAt (v.toList.map f) k.val = f v[k] := by
  rw [byteAt, List.getD_eq_getElem _ _ (by simp), List.getElem_map, Vector.getElem_toList]
  rfl

/-- Entry k of a vector whose entries are blocks of one length, between a header and what follows. -/
theorem slice_middle_block {α : Type} {m : Nat} (header rest : List Byte) (v : Vector α m) (f : α → List Byte) (w : Nat)
    (hw : ∀ a, (f a).length = w) (k : Fin m) :
    slice (header ++ v.toList.flatMap f ++ rest) (header.length + w * k.val) w = f v[k] := by
  have hlen : (header ++ v.toList.flatMap f).length = header.length + w * m := by
    rw [List.length_append, length_flatMap_block v f w hw]
  have hfits : w * k.val + w ≤ w * m := by
    rw [← Nat.mul_succ]
    exact Nat.mul_le_mul_left w k.isLt
  rw [slice_append_left (by rw [hlen]; omega), slice_header_block header v f w hw]

/-! ### STATUS (Table 11-5) -/

theorem pairData_length (p : Params) : (pairData p).length = 6 := by
  unfold pairData
  split <;> rfl

/-- The states, the directory and the verify queue's length: the first 11 bytes. -/
def statusFront (s : State) : List Byte :=
  [s.top.state.code, s.comp.state.code] ++ (s.banks.dir.toList.map BankEntry.code ++ [byteOf s.banks.queue.length])

/-- The counts and the missed-notice flag: the last 7 bytes. -/
def statusCounts (s : State) : List Byte :=
  le16 s.comp.late.toNat ++ le16 s.out.underruns.toNat ++ le16 s.link.errors.toNat ++ [flagCode s.link.missed]

theorem statusFront_length (s : State) : (statusFront s).length = 11 := by simp [statusFront]

theorem statusData_eq (s : State) : statusData s = statusFront s ++ (pairData s.active ++ statusCounts s) := by
  simp only [statusData, statusFront, statusCounts, List.append_assoc]

theorem byteAt_statusData_dir (s : State) (b : Fin 8) : byteAt (statusData s) (2 + b.val) = s.banks.dir[b].code := by
  have hplace : 2 + b.val = [s.top.state.code, s.comp.state.code].length + b.val := rfl
  rw [statusData_eq, byteAt_append_left (by rw [statusFront_length]; omega), statusFront, hplace, byteAt_append_right,
    byteAt_append_left (by simp), byteAt_map_toList]

theorem byteAt_statusData_queue (s : State) : byteAt (statusData s) 10 = byteOf s.banks.queue.length := by
  have hplace : 10 = ([s.top.state.code, s.comp.state.code] ++ s.banks.dir.toList.map BankEntry.code).length + 0 := by
    simp
  rw [statusData_eq, byteAt_append_left (by rw [statusFront_length]; omega), statusFront, ← List.append_assoc, hplace,
    byteAt_append_right]
  rfl

theorem slice_statusData_pair (s : State) : slice (statusData s) 11 6 = pairData s.active := by
  have hplace : 11 = (statusFront s).length + 0 := by rw [statusFront_length]
  rw [statusData_eq, hplace, slice_append_right, slice_append_left (by rw [pairData_length]), slice, List.drop_zero,
    List.take_of_length_le (by rw [pairData_length])]

theorem slice_statusData_counts (s : State) (j n : Nat) :
    slice (statusData s) (17 + j) n = slice (statusCounts s) j n := by
  have hplace : 17 + j = (statusFront s ++ pairData s.active).length + j := by
    rw [List.length_append, statusFront_length, pairData_length]
  rw [statusData_eq, ← List.append_assoc, hplace, slice_append_right]

theorem byteAt_statusData_missed (s : State) : byteAt (statusData s) 23 = flagCode s.link.missed := by
  have hbyte : byteAt (statusData s) 23 = byteAt (slice (statusData s) (17 + 6) 1) 0 :=
    (byteAt_slice (statusData s) 23 1 0 (by decide)).symm
  rw [hbyte, slice_statusData_counts]
  rfl

/-- Settles O11: the reply's data are `statusData` of the state taken, whose flag the same step clears. -/
theorem statusReportsAndClearsTheMissedFlag : Obligations.StatusReportsAndClearsTheMissedFlag := by
  unfold Obligations.StatusReportsAndClearsTheMissedFlag
  intro tag s hs
  refine ⟨statusData s, ?outcome, ?length, rfl, rfl, byteAt_statusData_dir s, byteAt_statusData_queue s, ?absent,
    ?present, ?late, ?underruns, ?errors, byteAt_statusData_missed s⟩
  case outcome =>
    have hbody : exec (.status tag []) s = .next (statusBody tag [] s) :=
      congrArg Host.Outcome.next (passGate_of_accepts 0x02#8 tag _ s hs)
    rw [hbody, statusBody, if_neg (by simp), State.replyOk_eq_answered _ _ _ _ (by decide)]
    rfl
  case length => rw [statusData_eq, List.length_append, List.length_append, statusFront_length, pairData_length]; rfl
  case absent =>
    intro hnone
    rw [slice_statusData_pair, pairData, hnone]
    rfl
  case present =>
    intro b hb
    rw [slice_statusData_pair, pairData, hb]
    rfl
  case late => exact (congrArg ofLe (slice_statusData_counts s 0 2)).trans (ofLe_le16_toNat _)
  case underruns => exact (congrArg ofLe (slice_statusData_counts s 2 2)).trans (ofLe_le16_toNat _)
  case errors => exact (congrArg ofLe (slice_statusData_counts s 4 2)).trans (ofLe_le16_toNat _)

/-! ### HISTORY (Table 11-7) -/

namespace FrameRecord
variable (r : FrameRecord)

/-- The fields before the cameras': 9 bytes. -/
def front : List Byte := le16 r.seq.toNat ++ le32 r.markTime.toNat ++ [r.outcome.code] ++ le16 r.issued

/-- The fields after the gains: 11 bytes. -/
def back : List Byte :=
  leInt16 r.height ++ [byteOf r.pair.low.val, byteOf r.pair.high.val, byteOf r.pair.f] ++
    le16 r.fresh ++ le16 r.held ++ le16 r.filled

theorem bytes_eq : r.bytes =
    r.front ++ r.answers.toList.flatMap Selection.record ++ (r.gains.toList.flatMap le16 ++ r.back) := by
  simp only [bytes, front, back, List.append_assoc]

end FrameRecord

theorem Selection.length_record (a : Selection) : a.record.length = 7 := by
  cases a <;> rfl

theorem length_le16 (n : Nat) : (le16 n).length = 2 := rfl

namespace FrameRecord
variable (r : FrameRecord)

theorem length_front_answers : (r.front ++ r.answers.toList.flatMap Selection.record).length = 37 := by
  rw [List.length_append, length_flatMap_block _ _ 7 Selection.length_record]
  rfl

theorem length_gains : (r.gains.toList.flatMap le16).length = 8 := length_flatMap_block _ _ 2 length_le16

theorem length_bytes : r.bytes.length = 56 := by
  rw [bytes_eq, List.length_append, length_front_answers, List.length_append, length_gains]
  rfl

theorem slice_bytes_front (j n : Nat) (h : j + n ≤ 9) : slice r.bytes j n = slice r.front j n := by
  rw [bytes_eq, List.append_assoc, slice_append_left h]

theorem slice_bytes_answer (i : Fin 4) : slice r.bytes (9 + 7 * i.val) 7 = r.answers[i].record := by
  rw [bytes_eq]
  exact slice_middle_block r.front _ r.answers Selection.record 7 Selection.length_record i

theorem slice_bytes_gain (i : Fin 4) : slice r.bytes (37 + 2 * i.val) 2 = le16 r.gains[i] := by
  rw [bytes_eq, ← List.append_assoc, ← length_front_answers r]
  exact slice_middle_block _ _ r.gains le16 2 length_le16 i

theorem slice_bytes_back (j n : Nat) : slice r.bytes (45 + j) n = slice r.back j n := by
  have hplace : 45 + j =
      (r.front ++ r.answers.toList.flatMap Selection.record ++ r.gains.toList.flatMap le16).length + j := by
    rw [List.length_append, length_front_answers, length_gains]
  rw [bytes_eq, ← List.append_assoc, hplace, slice_append_right]

theorem byteAt_bytes_back (j : Nat) : byteAt r.bytes (45 + j) = byteAt (slice r.back j 1) 0 := by
  rw [← slice_bytes_back, byteAt_slice _ _ _ _ (by decide), Nat.add_zero]

end FrameRecord

/-- Record n of the reply stands after the count and the records before it. -/
theorem slice_historyData (h : List FrameRecord) (n : Nat) (r : FrameRecord) (hr : h[n]? = some r) :
    slice (historyData h) (1 + 56 * n) 56 = r.bytes := by
  obtain ⟨hn, rfl⟩ := List.getElem?_eq_some_iff.mp hr
  have hplace : 1 + 56 * n = [byteOf h.length].length + 56 * n := rfl
  change slice ([byteOf h.length] ++ h.flatMap FrameRecord.bytes) (1 + 56 * n) 56 = _
  rw [hplace, slice_append_right, slice_flatMap_block _ 56 FrameRecord.length_bytes h n hn]

/-- Settles O13: the reply's data are the history's own records in its order, and a field is read inside its record. -/
theorem historyReportsTheRecordsNewestFirst : Obligations.HistoryReportsTheRecordsNewestFirst := by
  unfold Obligations.HistoryReportsTheRecordsNewestFirst
  intro tag s hs
  refine ⟨historyData s.comp.history, ?outcome, ?length, rfl, fun n r hr => ?record⟩
  case outcome =>
    have hbody : exec (.history tag []) s = .next (historyBody tag [] s) :=
      congrArg Host.Outcome.next (passGate_of_accepts 0x04#8 tag _ s hs)
    rw [hbody, historyBody, if_neg (by simp), State.replyOk_eq_answered _ _ _ _ (by decide)]
    rfl
  case length =>
    simp only [historyData, List.length_cons, List.length_flatMap, FrameRecord.length_bytes, List.map_const',
      List.sum_replicate, smul_eq_mul]
    omega
  case record =>
    rw [slice_historyData _ n r hr]
    refine ⟨?seq, ?markTime, ?outcome, ?issued, fun i => ?answer, fun i => ?gain, r.slice_bytes_back 0 2,
      r.byteAt_bytes_back 2, r.byteAt_bytes_back 3, r.byteAt_bytes_back 4, ?fresh, ?held, ?filled⟩
    case seq => exact (congrArg ofLe (r.slice_bytes_front 0 2 (by decide))).trans (ofLe_le16_toNat _)
    case markTime => exact (congrArg ofLe (r.slice_bytes_front 2 4 (by decide))).trans (ofLe_le32_toNat _)
    case outcome => rfl
    case issued => exact (congrArg ofLe (r.slice_bytes_front 7 2 (by decide))).trans (ofLe_le16_mod _)
    case answer =>
      rw [r.slice_bytes_answer i]
      cases r.answers[i] <;> rfl
    case gain => rw [r.slice_bytes_gain i, ofLe_le16_mod]
    case fresh => exact (congrArg ofLe (r.slice_bytes_back 5 2)).trans (ofLe_le16_mod _)
    case held => exact (congrArg ofLe (r.slice_bytes_back 7 2)).trans (ofLe_le16_mod _)
    case filled => exact (congrArg ofLe (r.slice_bytes_back 9 2)).trans (ofLe_le16_mod _)

end Sys2Proof.Machine
end

section
/-! A completed burst that is credited (Section 8.2), and STOP with the end of an abandon (Sections 5.8 and 9.1). -/

namespace Sys2Proof.Machine

/-! ### A completed burst after the memory start (R129) -/

theorem creditBurst_complete (b : Burst) (read : List Byte) {s : State} (h : s.memStart = .complete) :
    (creditBurst b read s).memStart = .complete := by
  unfold creditBurst
  cases b.client with
  | bodyFill =>
    change (fillBurstDone s).memStart = .complete
    rw [fillBurstDone, h]
    exact h
  | _ => simpa using h

section burst
variable (b : Burst) (s : State) (ht : s.Takes) (hm : s.memStart = .complete) (hp : s.arb.port = some b)
include ht hm hp

theorem exec_burstComplete_wanted (hw : b.wanted = true) :
    exec .burstComplete s = .next (arbitrate (creditBurst b (burstRead b s) (landBurst b s))) := by
  change Host.Outcome.next (burstComplete s) = _
  rw [burstComplete_wanted b s ht hp hw, resumeFill_of_complete _ (creditBurst_complete _ _ (by simpa using hm))]

theorem exec_burstComplete_unwanted (hw : b.wanted = false) :
    exec .burstComplete s = .next (arbitrate (landBurst b s)) :=
  congrArg Host.Outcome.next (burstComplete_unwanted b s ht hm hp hw)

end burst

theorem jobBurstDone_of_slot (n : Nat) (read : List Byte) {s : State} {j : Job} (h : s.slot = some j) :
    jobBurstDone n read s = if j.work.run.len ≤ j.moved + n then (s.setSlot none).replyOk j.kind j.tag (j.got ++ read)
      else s.setSlot (some { j with moved := j.moved + n, got := j.got ++ read }) := by
  simp only [jobBurstDone, h]

/-- Settles O26: the burst is credited to the slot's job, whose run tells the last one. -/
theorem lastJobBurstQueuesTheOwedReply : Obligations.LastJobBurstQueuesTheOwedReply := by
  unfold Obligations.LastJobBurstQueuesTheOwedReply
  intro j b s ht hm hj hp hc hw got
  have hgot : j.got ++ burstRead b s = got := rfl
  have hcredit : creditBurst b (burstRead b s) (landBurst b s) =
      jobBurstDone b.len (burstRead b s) (landBurst b s) := by simp only [creditBurst, hc]
  rw [exec_burstComplete_wanted b s ht hm hp hw, hcredit, jobBurstDone_of_slot _ _ ((landBurst_slot b s).trans hj), hgot]
  constructor
  · intro hlast
    rw [if_pos hlast]
    rfl
  · intro hmore
    rw [if_neg (Nat.not_le.mpr hmore)]

/-! ### STOP (R101, R118, R137) -/

/-- What a STOP leaves of the port: a tile-map read on it loses its work (R129). -/
theorem Arbiter.unwantIf_isTileMap (a : Arbiter) : a.unwantIf Client.isTileMap = match a.port with
    | some ⟨.tileMap m, x, n, d, _⟩ => { a with port := some ⟨.tileMap m, x, n, d, false⟩ }
    | _ => a := by
  obtain ⟨port, lastCam, auxLast⟩ := a
  rcases port with _ | ⟨client, x, n, d, w⟩
  · rfl
  · cases client <;> rfl

theorem Composer.composing_iff (c : Composer) : c.composing = true ↔ c.state ≠ .idle ∧ c.state ≠ .abandoning := by
  unfold Composer.composing
  cases c.state <;> simp

theorem settleEnd_of_inFlight {s : State} (h : s.comp.empty = false) : settleEnd s = s := by
  rw [settleEnd, if_neg (by rw [h]; simp)]

section stop
variable (tag : Byte) (s : State)

theorem stopBody_of_idle (h : s.top.state = .idle) : stopBody tag [] s = s.answered 0xC1#8 tag [0#8] := by
  rw [stopBody, if_neg (by simp), if_pos h]
  exact State.replyOk_eq_answered s 0x41#8 tag [] (by decide)

theorem stopBody_of_still (h : s.top.state ≠ .idle) (hc : s.comp.state = .idle ∨ s.comp.state = .abandoning) :
    stopBody tag [] s = s.haltTop.answered 0xC1#8 tag [0#8] := by
  have hstill : ¬ s.comp.composing = true := by
    rw [Composer.composing_iff]
    rcases hc with hc | hc <;> simp [hc]
  rw [stopBody, if_neg (by simp), if_neg h, if_neg hstill]
  exact State.replyOk_eq_answered _ 0x41#8 tag [] (by decide)

theorem stopBody_of_composing (h : s.top.state ≠ .idle) (hi : s.comp.state ≠ .idle) (ha : s.comp.state ≠ .abandoning) :
    stopBody tag [] s = settleEnd (abandonBegin (s.haltTop.setStopOwed (some tag))) := by
  rw [stopBody, if_neg (by simp), if_neg h, if_pos ((Composer.composing_iff _).mpr ⟨hi, ha⟩)]

theorem exec_stop_of_accepts (h : s.Accepts) : exec (.stop tag []) s = .next (stopBody tag [] s) :=
  congrArg Host.Outcome.next (passGate_of_accepts 0x41#8 tag _ s h)

end stop

/-- The answers of a composition that ends: a point still armed is NOT_REACHED (R75). -/
def State.answersAtEnd (s : State) : Vector Selection 4 :=
  Vector.ofFn fun i => if s.timer.armed[i] then .unavailable .notReached else s.comp.selection[i]

/-- The state in which an abandon begins, at the STOP of TAG `tag` (R101, R137). -/
def State.stopped (s : State) (tag : Byte) : State :=
  { s with
    top := ⟨.idle, false, false⟩
    comp := { s.comp with freshStart := false, state := .abandoning, decided := none, selection := s.answersAtEnd }
    out := s.out.stop
    stopOwed := some tag
    timer := { s.timer with armed := Vector.replicate 4 false }
    arb := s.arb.unwantIf Client.isTileMap }

theorem State.stopped_comp (s : State) (tag : Byte) : (s.stopped tag).comp =
    { s.comp with freshStart := false, state := .abandoning, decided := none, selection := s.answersAtEnd } := rfl

theorem State.stopped_empty (s : State) (tag : Byte) : (s.stopped tag).comp.empty = s.comp.empty := rfl

theorem abandonBegin_of_stop (s : State) (tag : Byte) :
    abandonBegin (s.haltTop.setStopOwed (some tag)) = s.stopped tag := by
  rw [abandonBegin, cancelPoints_whole]
  simp only [State.haltTop, State.setStopOwed, State.setTimer, State.setComp, State.setOut, State.setTop, State.setArb,
    State.stopped, State.answersAtEnd, Top.default]
  rfl

/-- Settles O29: the three ways of a STOP; with tiles in flight the abandon only begins. -/
theorem stopEndsOrAbandonsTheComposition : Obligations.StopEndsOrAbandonsTheComposition := by
  unfold Obligations.StopEndsOrAbandonsTheComposition
  intro tag s hs
  rw [exec_stop_of_accepts tag s hs]
  refine ⟨fun htop => by rw [stopBody_of_idle tag s htop], fun htop => ⟨fun hstill => ?still, ?flying⟩⟩
  case still =>
    rw [stopBody_of_still tag s htop hstill, State.haltTop, Output.stop_slots, Top.default]
  case flying =>
    intro hidle habandoning hflying sel arb
    rw [stopBody_of_composing tag s htop hidle habandoning, abandonBegin_of_stop,
      settleEnd_of_inFlight ((s.stopped_empty tag).trans hflying), State.stopped, Output.stop_slots,
      Arbiter.unwantIf_isTileMap]
    simp only [State.setTop, State.setComp, State.setOut, State.setStopOwed, State.setTimer, State.setArb]
    rfl

/-! ### The end of an abandon (R102, R103) -/

/-- The composer after an abandon: IDLE, with one record more. -/
def Composer.abandoned (c : Composer) (r : FrameRecord) : Composer :=
  { c with
    state := .idle, slot := none, hold := none, selection := Vector.replicate 4 .pending
    history := addRecord c.history r }

theorem abandonEnd_whole {s : State} {k : Fin 3} (h : s.comp.slot = some k) : abandonEnd s = payStop { s with
    cams := (releaseSlots s).cams
    comp := s.comp.abandoned (frameRecord s .abandoned)
    out := { s.out with slots := s.out.slots.set k .free }
    zones := Zone.cleared } := by
  rw [abandonEnd, freeSlot, h, releaseSlots_whole, releaseSlots_whole]
  rfl

/-- An owed STOP reply is queued, and none is owed after it (R102). -/
theorem payStop_whole (s : State) : payStop s = { s with
    link := match s.stopOwed with
      | some tag => { s.link with queue := s.link.queue ++ [⟨0xC1#8, tag, [0#8]⟩] }
      | none => s.link
    stopOwed := none } := by
  obtain ⟨_, _, _, _, _, _, owed, _, _, _, _, _, _, _, _, _, _, _⟩ := s
  cases owed <;> rfl

theorem settleEnd_of_abandoned {s : State} (h : s.comp.empty = true) (hs : s.comp.state = .abandoning) :
    settleEnd s = abandonEnd s := by
  rw [settleEnd, if_pos h, hs]

theorem releaseSlots_cams (s : State) : (releaseSlots s).cams = Vector.ofFn fun i => match s.comp.selection[i] with
    | .available _ => s.cams[i].release
    | _ => s.cams[i] := by
  rw [releaseSlots_whole]
  rfl

/-- A STOP that ends the abandon frees the composing slot and the PUBLISHED ones. -/
theorem set_free_stop_slots (o : Output) (k : Fin 3) : o.stop.slots.set k .free =
    Vector.ofFn fun j => if j = k ∨ o.slots[j].isPublished = true then .free else o.slots[j] := by
  rw [Output.stop_slots]
  refine Vector.ext fun j hj => ?_
  have hget := get_set_fin
    (Vector.ofFn fun k => if o.slots[k].isPublished then OutSlot.free else o.slots[k]) k ⟨j, hj⟩ .free
  simp only [Fin.getElem_fin, Vector.getElem_ofFn] at hget ⊢
  rw [hget]
  by_cases hjk : (⟨j, hj⟩ : Fin 3) = k <;> simp [hjk]

theorem storeBurstDone_of_last {s : State} {st : StoreStage} {n : Nat} (h : s.comp.store = some st)
    (hlast : 3072 ≤ st.written + n) :
    storeBurstDone n s = settleEnd (s.setComp (Composer.advance { s.comp with store := none } s.active)) := by
  simp only [storeBurstDone, h]
  rw [if_pos (by exact hlast)]

/-- Settles O30: both ends are `abandonEnd`, once after the STOP's own hold on the state and once at the last STORE
burst. -/
theorem abandonWithoutTilesEndsAtTheStop : Obligations.AbandonWithoutTilesEndsAtTheStop := by
  unfold Obligations.AbandonWithoutTilesEndsAtTheStop
  intro k s hslot released cams ended
  constructor
  · intro tag hs htop hidle habandoning hempty sel
    have hcams : (releaseSlots (s.stopped tag)).cams = cams sel := by
      rw [releaseSlots_cams]
      simp only [Camera.release_slots]
      rfl
    have hslots : (s.stopped tag).out.slots.set k .free = Vector.ofFn fun j =>
        if j = k ∨ s.out.slots[j].isPublished = true then .free else s.out.slots[j] := set_free_stop_slots s.out k
    have harb := (show (s.stopped tag).arb = _ from rfl).trans (Arbiter.unwantIf_isTileMap s.arb)
    have hcomposing : (s.stopped tag).comp.slot = some k := by rw [State.stopped_comp, hslot]
    rw [exec_stop_of_accepts tag s hs, stopBody_of_composing tag s htop hidle habandoning, abandonBegin_of_stop,
      settleEnd_of_abandoned ((s.stopped_empty tag).trans hempty) rfl, abandonEnd_whole hcomposing, hcams,
      payStop_whole]
    rw [hslots, harb]
    rfl
  · intro b st ht hm hp hc hw habandoning hfetch hsample hstore hlast
    have hcredit : creditBurst b (burstRead b s) (landBurst b s) = storeBurstDone b.len (landBurst b s) := by
      simp only [creditBurst, hc]
    have hstill : Composer.advance { s.comp with store := none } s.active = { s.comp with store := none } :=
      Composer.advance_still _ _ (by simp [habandoning]) hfetch hsample
    let u := (landBurst b s).setComp { s.comp with store := none }
    have hempty : u.comp.empty = true := by simp [u, Composer.empty, hfetch, hsample]
    have hcams : (releaseSlots u).cams = cams s.comp.selection := by
      rw [releaseSlots_cams]
      simp only [Camera.release_slots, u, State.setComp_cams, landBurst_cams]
      rfl
    rw [exec_burstComplete_wanted b s ht hm hp hw, hcredit,
      storeBurstDone_of_last ((congrArg _ (landBurst_comp b s)).trans hstore) hlast, landBurst_comp, landBurst_active,
      hstill, settleEnd_of_abandoned hempty habandoning, abandonEnd_whole (s := u) hslot, hcams]
    have hrecord : u.comp.abandoned (frameRecord u .abandoned) = { ended s.comp.selection with store := none } := by
      simp only [u, frameRecord, State.setComp_comp, State.setComp_active, landBurst_active]
      rfl
    have hout : u.out = s.out := by simp only [u, State.setComp_out, landBurst_out]
    rw [hrecord, hout]
    rw [payStop_whole]
    simp only [u, State.setComp, landBurst_link, landBurst_stopOwed]
    rfl

end Sys2Proof.Machine
end

section
/-! FRAME_START and LOSS_TIMER_EXPIRY (Sections 3.2 and 3.3): which slot a new frame takes, what a frame start writes, and
the statements that rest on both. -/

namespace Sys2Proof.Machine

theorem unlessAsserted_of_takes {s : State} (f : State → State) (h : s.Takes) : s.unlessAsserted f = f s :=
  if_neg (by rw [h]; exact Bool.false_ne_true)

/-! ### The lowest number with a property, and the best of a list -/

theorem find?_finRange_eq_some_iff {n : Nat} (p : Fin n → Bool) (j : Fin n) :
    (List.finRange n).find? p = some j ↔ p j = true ∧ ∀ k : Fin n, k < j → p k = false := by
  rw [List.find?_eq_some_iff_getElem]
  simp only [List.getElem_finRange, Bool.not_eq_true', List.length_finRange, Fin.cast_mk]
  constructor
  · rintro ⟨hj, i, hi, rfl, hlow⟩
    exact ⟨hj, fun k hk => hlow k.val hk⟩
  · rintro ⟨hj, hlow⟩
    exact ⟨hj, j.val, j.isLt, rfl, fun i hi => hlow ⟨i, by omega⟩ hi⟩

theorem cams4_eq : cams4 = List.finRange 4 := by decide

/-- A fold that keeps its best element or takes the next one. `good b x` says that `b` stands when both have been seen;
the two hypotheses say that it holds of what is kept. -/
theorem foldl_best {α : Type} {R good before : α → α → Prop} [DecidableRel R] {g : Option α → α → Option α}
    (hnone : ∀ x, g none x = some x) (hsome : ∀ b x, g (some b) x = if R b x then some x else some b)
    (hrefl : ∀ x, good x x) (hnew : ∀ b x y, before b x → R b x → good b y → good x y)
    (hold : ∀ b x, before b x → ¬ R b x → good b x) (l : List α) (hl : l.Pairwise before) :
    (l.foldl g none = none ∧ l = []) ∨ ∃ b ∈ l, l.foldl g none = some b ∧ ∀ x ∈ l, good b x := by
  induction l using List.reverseRecOn with
  | nil => exact .inl ⟨rfl, rfl⟩
  | append_singleton l x ih =>
    obtain ⟨hl', -, hx⟩ := List.pairwise_append.mp hl
    refine .inr ?_
    rw [List.foldl_append, List.foldl_cons, List.foldl_nil]
    rcases ih hl' with ⟨hnil, rfl⟩ | ⟨b, hb, hbest, hgood⟩
    · exact ⟨x, by simp, by rw [hnil, hnone], by simpa using hrefl x⟩
    · have hbefore : before b x := hx b hb x (by simp)
      rw [hbest, hsome]
      by_cases hR : R b x
      · refine ⟨x, by simp, if_pos hR, fun y hy => ?_⟩
        rcases List.mem_append.mp hy with hy | hy
        · exact hnew b x y hbefore hR (hgood y hy)
        · rw [List.mem_singleton.mp hy]
          exact hrefl x
      · refine ⟨b, by simp [hb], if_neg hR, fun y hy => ?_⟩
        rcases List.mem_append.mp hy with hy | hy
        · exact hgood y hy
        · rw [List.mem_singleton.mp hy]
          exact hold b x hbefore hR

/-! ### READY slots by age (R54, R61) -/

namespace Camera
variable (c : Camera) (now : Word)

theorem mem_readyAges (x : Fin 4 × Word) :
    x ∈ c.readyAges now ↔ ∃ e, c.slots[x.1].readyEnd? = some e ∧ x.2 = now - e := by
  simp only [readyAges, List.mem_filterMap, mem_cams4, true_and, Option.map_eq_some_iff, ageOf]
  constructor
  · rintro ⟨k, e, he, rfl⟩
    exact ⟨e, he, rfl⟩
  · rintro ⟨e, he, hage⟩
    exact ⟨x.1, e, he, by rw [← hage]⟩

theorem readyAges_rising : (c.readyAges now).Pairwise (fun x y => x.1 < y.1) := by
  refine List.Pairwise.filterMap _ (R := (· < ·)) ?_ (by decide)
  intro k k' hlt x hx y hy
  obtain ⟨e, -, rfl⟩ := Option.map_eq_some_iff.mp hx
  obtain ⟨e', -, rfl⟩ := Option.map_eq_some_iff.mp hy
  exact hlt

/-- One comparison of R54: the next slot is taken when it is older. -/
def older (best : Option (Fin 4 × Word)) (x : Fin 4 × Word) : Option (Fin 4 × Word) :=
  match best with
  | none => some x
  | some b => if b.2 < x.2 then some x else some b

theorem oldestReady_eq : c.oldestReady now = ((c.readyAges now).foldl older none).map (·.1) := rfl

/-- The oldest READY slot has the largest age, of equal ages the lower number (R54). -/
theorem oldestReady_cases : (c.oldestReady now = none ∧ ∀ k : Fin 4, c.slots[k].readyEnd? = none) ∨
    ∃ (j : Fin 4) (e : Word), c.oldestReady now = some j ∧ c.slots[j].readyEnd? = some e ∧
      ∀ (k : Fin 4) (e' : Word), c.slots[k].readyEnd? = some e' →
        now - e' < now - e ∨ (now - e' = now - e ∧ j ≤ k) := by
  have hnew : ∀ b x y : Fin 4 × Word, b.1 < x.1 → b.2 < x.2 → (y.2 < b.2 ∨ (y.2 = b.2 ∧ b.1 ≤ y.1)) →
      y.2 < x.2 ∨ (y.2 = x.2 ∧ x.1 ≤ y.1) := by
    rintro b x y - hlt (hy | ⟨hy, -⟩)
    · exact .inl (BitVec.lt_trans hy hlt)
    · exact .inl (hy ▸ hlt)
  have hold : ∀ b x : Fin 4 × Word, b.1 < x.1 → ¬ b.2 < x.2 → x.2 < b.2 ∨ (x.2 = b.2 ∧ b.1 ≤ x.1) := by
    intro b x hbefore hle
    by_cases heq : x.2 = b.2
    · exact .inr ⟨heq, le_of_lt hbefore⟩
    · exact .inl (BitVec.lt_of_le_ne (BitVec.not_lt.mp hle) heq)
  rw [oldestReady_eq]
  rcases foldl_best (g := older) (fun _ => rfl) (fun _ _ => rfl) (fun _ => .inr ⟨rfl, le_refl _⟩) hnew hold _
    (c.readyAges_rising now) with ⟨hnone, hnil⟩ | ⟨b, hb, hbest, hgood⟩
  · refine .inl ⟨congrArg (Option.map _) hnone, fun k => ?_⟩
    rw [Option.eq_none_iff_forall_ne_some]
    intro e he
    have hmem := (c.mem_readyAges now (k, now - e)).mpr ⟨e, he, rfl⟩
    rw [hnil] at hmem
    cases hmem
  · obtain ⟨e, he, hage⟩ := (c.mem_readyAges now b).mp hb
    refine .inr ⟨b.1, e, congrArg (Option.map _) hbest, he, fun k e' he' => ?_⟩
    rw [← hage]
    exact hgood (k, now - e') ((c.mem_readyAges now (k, now - e')).mpr ⟨e', he', rfl⟩)

/-! ### The slot of a new frame (R54) -/

/-- `j` is the slot that R54 gives a new frame at time `now`. -/
def TakesSlot (slots : Fin 4 → RingSlot) (now : Word) (j : Fin 4) : Prop :=
  (slots j = .empty ∧ ∀ k : Fin 4, k < j → slots k ≠ .empty) ∨
    ((∀ k : Fin 4, slots k ≠ .empty) ∧ ∃ e, (slots j).readyEnd? = some e ∧
      ∀ (k : Fin 4) (e' : Word), (slots k).readyEnd? = some e' → now - e' < now - e ∨ (now - e' = now - e ∧ j ≤ k))

/-- With no FILLING and at most one IN_USE slot there is always a slot to take (R54, R60). -/
theorem chooseSlot_takes (hfilling : ∀ k : Fin 4, c.slots[k].isFilling = false)
    (hinUse : ∀ i j : Fin 4, c.slots[i].isInUse = true → c.slots[j].isInUse = true → i = j) :
    ∃ j, c.chooseSlot now = some j ∧ TakesSlot (fun k => c.slots[k]) now j := by
  unfold chooseSlot
  split
  · next j hj =>
    obtain ⟨hempty, hlow⟩ := (find?_finRange_eq_some_iff _ _).mp (cams4_eq ▸ hj)
    exact ⟨j, rfl, .inl ⟨of_decide_eq_true hempty, fun k hk => of_decide_eq_false (hlow k hk)⟩⟩
  · next hnone =>
    have hfull : ∀ k : Fin 4, c.slots[k] ≠ .empty := fun k => by
      simpa using List.find?_eq_none.mp hnone k (mem_cams4 k)
    rcases c.oldestReady_cases now with ⟨-, hnever⟩ | ⟨j, e, hj, he, hbest⟩
    · have hused : ∀ k : Fin 4, c.slots[k].isInUse = true := fun k => by
        have h1 := hfull k
        have h2 := hfilling k
        have h3 := hnever k
        cases hk : c.slots[k] <;> simp_all [RingSlot.isFilling, RingSlot.readyEnd?, RingSlot.isInUse]
      exact absurd (hinUse 0 1 (hused 0) (hused 1)) (by decide)
    · exact ⟨j, hj, .inr ⟨hfull, e, he, hbest⟩⟩

/-! ### What a frame start writes (R50, R53, R58) -/

theorem any_isFilling_eq (c : Camera) : c.slots.toList.any RingSlot.isFilling = c.fillingSlot.isSome := by
  rw [Bool.eq_iff_iff, any_toList_iff, Option.isSome_iff_ne_none, Ne, fillingSlot_eq_none_iff, not_forall]
  exact exists_congr fun k => by rw [Bool.not_eq_false]

theorem reacquire_eq : c.reacquire = { c with
    state := if c.state = .lost then .acquiring else c.state
    good := if c.state = .lost then 0 else c.good } := by
  unfold reacquire
  split <;> rfl

/-- Closing the frame in a FILLING slot empties that slot, and records its damage (R53, R58). -/
theorem interrupt_eq (h : ∀ i j : Fin 4, c.slots[i].isFilling = true → c.slots[j].isFilling = true → i = j) :
    c.interrupt = { c with
      good := if c.fillingSlot.isSome then 0 else c.good
      lastDamage := if c.fillingSlot.isSome then some (c.mark.getD .interrupted) else c.lastDamage
      damage := if c.fillingSlot.isSome then c.damage + 1#16 else c.damage
      slots := Vector.ofFn fun k => if c.slots[k].isFilling then .empty else c.slots[k] } := by
  unfold interrupt
  cases hk : c.fillingSlot with
  | none =>
    have hslots : (Vector.ofFn fun k : Fin 4 => if c.slots[k].isFilling then .empty else c.slots[k]) = c.slots := by
      refine Vector.ext fun k hk4 => ?_
      rw [Vector.getElem_ofFn, if_neg (Bool.eq_false_iff.mp (c.fillingSlot_eq_none_iff.mp hk ⟨k, hk4⟩))]
      rfl
    rw [hslots]
    rfl
  | some j =>
    have hj := c.isFilling_of_fillingSlot j hk
    have hslots : (Vector.ofFn fun k : Fin 4 => if c.slots[k].isFilling then .empty else c.slots[k]) =
        c.slots.set j .empty := by
      refine Vector.ext fun k hk4 => ?_
      have hget := get_set_fin c.slots j ⟨k, hk4⟩ .empty
      simp only [Fin.getElem_fin] at hget
      rw [Vector.getElem_ofFn, hget]
      by_cases hkj : (⟨k, hk4⟩ : Fin 4) = j
      · rw [if_pos hkj, hkj, if_pos hj]
      · rw [if_neg hkj, if_neg fun hfilling => hkj (h _ _ hfilling hj)]
        rfl
    rw [hslots]
    rfl

theorem openFrame_of_chosen {j : Fin 4} (h : c.chooseSlot now = some j) : c.openFrame now = { c with
    skipped := if evictedUnused c.slots[j] then c.skipped + 1#16 else c.skipped
    slots := c.slots.set j (.filling c.frameCounter now 0)
    frameCounter := c.frameCounter + 1#16
    mark := none
    loss := some (1000 * c.setup.lossMs) } := by
  rw [openFrame, h]

/-- The slots after step 1 of R53. -/
def closedSlots : Vector RingSlot 4 := Vector.ofFn fun k => if c.slots[k].isFilling then .empty else c.slots[k]

theorem closedSlots_get (k : Fin 4) : c.closedSlots[k] = if c.slots[k].isFilling then .empty else c.slots[k] := by
  simp [closedSlots]

theorem frameStart_eq (h : c.RingLaw) : ∃ j : Fin 4, TakesSlot (fun k => c.closedSlots[k]) now j ∧
    c.frameStart now = { c with
      state := if c.state = .lost then .acquiring else c.state
      good := if c.state = .lost ∨ c.fillingSlot.isSome = true then 0 else c.good
      loss := some (1000 * c.setup.lossMs)
      mark := none
      lastDamage := if c.fillingSlot.isSome then some (c.mark.getD .interrupted) else c.lastDamage
      damage := if c.fillingSlot.isSome then c.damage + 1#16 else c.damage
      skipped := if evictedUnused c.closedSlots[j] then c.skipped + 1#16 else c.skipped
      frameCounter := c.frameCounter + 1#16
      slots := c.closedSlots.set j (.filling c.frameCounter now 0) } := by
  have hslots : c.reacquire.slots = c.slots := c.reacquire_slots
  have hfound : c.reacquire.fillingSlot = c.fillingSlot := by rw [fillingSlot, hslots, fillingSlot]
  have hclosed := c.reacquire.interrupt_eq (by rw [hslots]; exact h.filling)
  have hlaw : c.reacquire.interrupt.RingLaw := h.of_noNewSlots c.reacquire_interrupt_noNewSlots
  obtain ⟨j, hj, htakes⟩ := c.reacquire.interrupt.chooseSlot_takes now
    (c.reacquire.interrupt_isFilling (h.of_noNewSlots (.of_eq hslots))) hlaw.inUse
  have hleft : c.reacquire.interrupt.slots = c.closedSlots := by rw [hclosed, closedSlots, hslots]
  refine ⟨j, by rw [← hleft]; exact htakes, ?_⟩
  rw [frameStart, openFrame_of_chosen _ _ hj, hleft, hclosed, hfound, reacquire_eq]
  by_cases hlost : c.state = .lost <;> simp [hlost]

end Camera

/-! ### FRAME_START (R50, R53, R54, R58) -/

theorem exec_frameStart (i : Fin 4) {s : State} (ht : s.Takes) : exec (.frameStart i) s = .next (frameStartEvent i s) :=
  congrArg Host.Outcome.next (unlessAsserted_of_takes _ ht)

theorem frameStartEvent_of_off (i : Fin 4) {s : State} (h : s.cams[i].state = .off) : frameStartEvent i s = s := by
  simp only [frameStartEvent, h]

theorem State.setCam_setCam (s : State) (i : Fin 4) (a b : Camera) : (s.setCam i a).setCam i b = s.setCam i b := by
  simp [State.setCam, State.setCams]

/-- A notice and a camera's change do not touch each other. -/
theorem State.setCam_notice (s : State) (i : Fin 4) (c : Camera) (k : NoticeKind) (p : List Byte) :
    (s.setCam i c).notice k p = (s.notice k p).setCam i c := by
  rw [State.notice_whole, State.notice_whole s, State.notice_link, State.notice_link]
  rfl

/-- A frame start at a camera that is not OFF; from LOST its notice names the state ACQUIRING (R50, R51). -/
theorem frameStartEvent_of_on (i : Fin 4) {s : State} (h : s.cams[i].state ≠ .off) : frameStartEvent i s =
    (if s.cams[i].state = .lost then
      s.notice .camera ([BitVec.ofNat 8 i.val, 1#8] ++ le32 s.timer.timebase.toNat) else s).setCam i
        (s.cams[i].frameStart s.timer.timebase) := by
  unfold frameStartEvent
  dsimp only
  split
  · next hoff => exact absurd hoff h
  · next hlost =>
    rw [if_pos hlost, State.cameraNotice, State.setCam_get_same, State.setCam_notice, State.setCam_setCam,
      Camera.reacquire, if_pos hlost]
    rfl
  · next hstate => rw [if_neg (by rw [hstate]; decide)]
  · next hstate => rw [if_neg (by rw [hstate]; decide)]

/-- Settles O31: the slots that step 1 of R53 leaves, the one that R54 takes of them, and the fields that the steps
write. -/
theorem frameStartOpensOneSlot : Obligations.FrameStartOpensOneSlot := by
  unfold Obligations.FrameStartOpensOneSlot
  intro i s ht
  rw [exec_frameStart i ht]
  refine ⟨fun hoff => by rw [frameStartEvent_of_off i hoff], ?_⟩
  intro hon hlaw c now lost filling left
  obtain ⟨j, htakes, hstart⟩ := c.frameStart_eq now hlaw
  have hleft : (fun k => c.closedSlots[k]) = left := funext c.closedSlots_get
  rw [hleft] at htakes
  refine ⟨j, c.closedSlots.set j (.filling c.frameCounter now 0), htakes, ?_, ?_, ?_⟩
  · rw [get_set_fin, if_pos rfl]
  · intro k hk
    rw [get_set_fin, if_neg hk, c.closedSlots_get]
  · have hfilling : filling = c.fillingSlot.isSome := c.any_isFilling_eq
    rw [frameStartEvent_of_on i hon]
    change Host.Outcome.next (State.setCam _ i (c.frameStart now)) = _
    rw [hstart, c.closedSlots_get j, hfilling]
    simp only [lost, decide_eq_true_eq, Bool.or_eq_true]
    rfl

/-! ### LOSS_TIMER_EXPIRY (R48) -/

theorem exec_lossTimerExpiry (i : Fin 4) {s : State} (ht : s.Takes) :
    exec (.lossTimerExpiry i) s = .next (lossTimerExpiryEvent i s) :=
  congrArg Host.Outcome.next (unlessAsserted_of_takes _ ht)

theorem Camera.expired_iff (c : Camera) :
    c.expired = true ↔ c.loss = some 0 ∧ (c.state = .acquiring ∨ c.state = .live) := by
  simp only [Camera.expired, Bool.and_eq_true, Bool.or_eq_true, decide_eq_true_eq]

theorem lossTimerExpiryEvent_of_running (i : Fin 4) {s : State} (h : s.cams[i].loss ≠ some 0) :
    lossTimerExpiryEvent i s = s := by
  rw [lossTimerExpiryEvent, if_neg fun hexpired => h ((Camera.expired_iff _).mp hexpired).1]

/-- Settles O34: only a timer run down in ACQUIRING or LIVE expires, and a frame start has restarted it. -/
theorem lossTimerExpiryMakesTheCameraLost : Obligations.LossTimerExpiryMakesTheCameraLost := by
  unfold Obligations.LossTimerExpiryMakesTheCameraLost
  intro i s ht c
  refine ⟨?expires, ?still, ?restarted⟩
  case expires =>
    intro hloss hstate
    rw [exec_lossTimerExpiry i ht, lossTimerExpiryEvent, if_pos (c.expired_iff.mpr ⟨hloss, hstate⟩), State.cameraNotice,
      State.setCam_get_same]
    rfl
  case still =>
    intro hstill
    rw [exec_lossTimerExpiry i ht, lossTimerExpiryEvent, if_neg]
    rw [Camera.expired_iff]
    rintro ⟨hloss, hstate⟩
    rcases hstill with h | h | h
    · exact h hloss
    · rcases hstate with hs | hs <;> exact absurd (h.symm.trans hs) (by decide)
    · rcases hstate with hs | hs <;> exact absurd (h.symm.trans hs) (by decide)
  case restarted =>
    intro hon hlaw hlong
    refine ⟨frameStartEvent i s, exec_frameStart i ht, ?_⟩
    have htakes : (frameStartEvent i s).Takes := by
      rw [frameStartEvent_of_on i hon]
      change State.resetAsserted _ = false
      rw [State.setCam_resetAsserted]
      split
      · rw [State.notice_resetAsserted, ht]
      · exact ht
    have hloss : (frameStartEvent i s).cams[i].loss = some (1000 * c.setup.lossMs) := by
      obtain ⟨j, -, hstart⟩ := c.frameStart_eq s.timer.timebase hlaw
      rw [frameStartEvent_of_on i hon, State.setCam_get_same]
      exact congrArg Camera.loss hstart
    rw [exec_lossTimerExpiry i htakes, lossTimerExpiryEvent_of_running]
    rw [hloss, Ne, Option.some_inj]
    omega

end Sys2Proof.Machine
end

section
/-! LINE and FRAME_END (Section 3.3), and the selection of a camera (Section 3.5). -/

namespace Sys2Proof.Machine

/-! ### LINE (R55, R56) -/

theorem exec_line (i : Fin 4) (bytes : List Byte) {s : State} (ht : s.Takes) :
    exec (.line i bytes) s = .next (lineEvent i bytes s) :=
  congrArg Host.Outcome.next (unlessAsserted_of_takes _ ht)

theorem lineEvent_of_on (i : Fin 4) (bytes : List Byte) {s : State} (h : s.cams[i].state ≠ .off) :
    lineEvent i bytes s = arbitrate (s.setCam i (s.cams[i].takeLine bytes)) := by
  rw [lineEvent, if_neg h]

namespace Camera
variable (c : Camera) (bytes : List Byte)

theorem takeLine_of_none (h : (∀ j : Fin 4, c.slots[j].isFilling = false) ∨ c.mark ≠ none) : c.takeLine bytes = c := by
  unfold takeLine
  split
  · rfl
  · next k hk =>
    rcases h with h | h
    · exact absurd (c.isFilling_of_fillingSlot k hk) (by rw [h]; simp)
    · cases hmark : c.mark with
      | none => exact absurd hmark h
      | some d => rfl

/-- The checks of an unmarked frame's line, in the order of R55. -/
theorem takeLine_of_filling {k : Fin 4} {n : Half} {start : Word} {lines : Nat} (h : c.RingLaw)
    (hk : c.slots[k] = .filling n start lines) (hmark : c.mark = none) : c.takeLine bytes =
      if lines = c.setup.height then { c with mark := some .lineCount }
      else if bytes.length / 2 ≠ c.setup.width then { c with mark := some .lineLength }
      else if 2 ≤ c.fifo.length then { c with mark := some .overrun }
      else { c with
        fifo := c.fifo ++ [⟨k, lines, convertLine bytes, 0⟩]
        slots := c.slots.set k (.filling n start (lines + 1)) } := by
  have hfound : c.fillingSlot = some k := c.fillingSlot_some k h.filling (by rw [hk]; rfl)
  simp only [takeLine, hfound, hmark, hk, pixelCount]
  rfl

end Camera

theorem convertLine_length (bytes : List Byte) : ∀ n, bytes.length = 4 * n → (convertLine bytes).length = 6 * n := by
  intro n h
  induction n generalizing bytes with
  | zero =>
    rw [List.length_eq_zero_iff.mp h]
    rfl
  | succ n ih =>
    match bytes, h with
    | cb :: y0 :: cr :: y1 :: rest, h =>
      have hrest : rest.length = 4 * n := by simpa [Nat.mul_succ] using h
      rw [convertLine, List.length_append, ih rest hrest, convertPair]
      simp only [List.length_cons, List.length_nil]
      omega

/-- Pair k of a line gives the six bytes of two pixels that share its chroma (R52). -/
theorem slice_convertLine (bytes : List Byte) (n : Nat) (h : bytes.length = 4 * n) (k : Nat) (hk : k < n) :
    slice (convertLine bytes) (6 * k) 6 = convertPair (byteAt bytes (4 * k)) (byteAt bytes (4 * k + 1))
      (byteAt bytes (4 * k + 2)) (byteAt bytes (4 * k + 3)) := by
  induction n generalizing bytes k with
  | zero => omega
  | succ n ih =>
    match bytes, h with
    | cb :: y0 :: cr :: y1 :: rest, h =>
      have hrest : rest.length = 4 * n := by simpa [Nat.mul_succ] using h
      rw [convertLine]
      cases k with
      | zero => rfl
      | succ k =>
        have hplace : 6 * (k + 1) = (convertPair cb y0 cr y1).length + 6 * k := by
          simp only [convertPair, List.length_cons, List.length_nil]
          omega
        rw [hplace, slice_append_right, ih rest hrest k (by omega)]
        rfl

/-- Settles O32: the checks in their order, and each pair of a line converted in its place. -/
theorem lineIsCheckedAndConverted : Obligations.LineIsCheckedAndConverted := by
  unfold Obligations.LineIsCheckedAndConverted
  refine ⟨?event, fun bytes n h => ⟨convertLine_length bytes n h, fun k hk => ?converted⟩⟩
  case converted =>
    have hpair := slice_convertLine bytes n h k hk
    constructor
    · rw [← Nat.add_zero (6 * k), ← slice_slice _ (6 * k) 6 0 3 (by decide), hpair]
      rfl
    · rw [← slice_slice _ (6 * k) 6 3 3 (by decide), hpair]
      rfl
  case event =>
    intro i k bytes n start lines s ht c marked
    refine ⟨fun hoff => ?_, fun hon => ⟨fun hnone => ?_, fun hlaw hk hmark => ?_⟩⟩
    · rw [exec_line i bytes ht, lineEvent, if_pos hoff]
    · rw [exec_line i bytes ht, lineEvent_of_on i bytes hon, Camera.takeLine_of_none _ _ hnone, State.setCam_self]
    · have hline := c.takeLine_of_filling bytes hlaw hk hmark
      have hexec : exec (.line i bytes) s = .next (arbitrate (s.setCam i (c.takeLine bytes))) := by
        rw [exec_line i bytes ht, lineEvent_of_on i bytes hon]
      rw [hline] at hexec
      refine ⟨fun h => hexec.trans ?count, fun h hw => hexec.trans ?length, fun h hw hfull => hexec.trans ?overrun,
        fun h hw hroom => hexec.trans ?accepted⟩
      case count => rw [if_pos h]
      case length => rw [if_neg h, if_pos hw]
      case overrun => rw [if_neg h, if_neg (not_not.mpr hw), if_pos hfull]
      case accepted => rw [if_neg h, if_neg (not_not.mpr hw), if_neg (Nat.not_le.mpr hroom)]

/-! ### FRAME_END (R49, R57, R58) -/

theorem exec_frameEnd (i : Fin 4) {s : State} (ht : s.Takes) : exec (.frameEnd i) s = .next (frameEndEvent i s) :=
  congrArg Host.Outcome.next (unlessAsserted_of_takes _ ht)

theorem frameEndEvent_of_on (i : Fin 4) {s : State} (h : s.cams[i].state ≠ .off) : frameEndEvent i s =
    let c := s.cams[i].endFrame s.timer.timebase
    if c.state ≠ s.cams[i].state then
      (s.setCam i c).notice .camera ([BitVec.ofNat 8 i.val, c.state.code] ++ le32 s.timer.timebase.toNat)
    else s.setCam i c := by
  simp only [frameEndEvent, State.cameraNotice, State.setCam_get_same, State.setCam_timer]
  rw [if_neg h]
  rfl

namespace Camera
variable (c : Camera) (now : Word)

theorem endFrame_of_none (h : ∀ j : Fin 4, c.slots[j].isFilling = false) : c.endFrame now = c := by
  rw [endFrame, c.fillingSlot_none h]

section
variable {k : Fin 4} {n : Half} {start : Word} {lines : Nat} (h : c.RingLaw) (hk : c.slots[k] = .filling n start lines)
include h hk

theorem endFrame_of_whole (hmark : c.mark = none) (hlines : lines = c.setup.height) :
    c.endFrame now = Camera.addGood { c with slots := c.slots.set k (.ready n start now lines false) } := by
  have hfound : c.fillingSlot = some k := c.fillingSlot_some k h.filling (by rw [hk]; rfl)
  have hend : c.endMark lines = none := by rw [endMark, hmark, ← hlines]; simp
  simp only [endFrame, hfound, hk, hend]

theorem endFrame_of_damaged (hbad : c.mark ≠ none ∨ lines ≠ c.setup.height) : c.endFrame now = { c with
    slots := c.slots.set k .empty
    good := 0
    damage := c.damage + 1#16
    lastDamage := some (c.mark.getD .lineCount)
    mark := none } := by
  have hfound : c.fillingSlot = some k := c.fillingSlot_some k h.filling (by rw [hk]; rfl)
  have hend : c.endMark lines = some (c.mark.getD .lineCount) := by
    unfold endMark
    cases hmark : c.mark with
    | none => exact if_neg (hbad.resolve_left (not_not.mpr hmark))
    | some d => rfl
  simp only [endFrame, hfound, hk, hend]
  rfl

end

end Camera

/-- Settles O33: a frame is whole when it carries no mark and its lines are the height; the notice goes with the move to
LIVE. -/
theorem frameEndClosesTheFrame : Obligations.FrameEndClosesTheFrame := by
  unfold Obligations.FrameEndClosesTheFrame
  intro i k n start lines s ht c now
  rw [exec_frameEnd i ht]
  constructor
  · intro hnone
    by_cases hoff : c.state = .off
    · rw [frameEndEvent]
      exact congrArg Host.Outcome.next (if_pos hoff)
    · rw [frameEndEvent_of_on i hoff, Camera.endFrame_of_none _ _ (hnone.resolve_left hoff)]
      dsimp only
      rw [if_neg (not_not.mpr rfl), State.setCam_self]
  · intro hon hlaw hk
    rw [frameEndEvent_of_on i hon]
    constructor
    · intro hmark hlines good live t
      rw [Camera.endFrame_of_whole _ _ hlaw hk hmark hlines]
      by_cases hlive : live
      · have hstate : (Camera.addGood { c with slots := c.slots.set k (.ready n start now lines false) }).state = .live :=
          if_pos hlive
        dsimp only
        rw [if_pos hlive, if_pos (by rw [hstate, hlive.1]; decide), hstate]
        rfl
      · have hstate : (Camera.addGood { c with slots := c.slots.set k (.ready n start now lines false) }).state = c.state :=
          if_neg hlive
        dsimp only
        rw [if_neg hlive, if_neg (by rw [hstate]; exact not_not.mpr rfl)]
        rfl
    · intro hbad
      rw [Camera.endFrame_of_damaged _ _ hlaw hk hbad]
      dsimp only
      rw [if_neg (not_not.mpr rfl)]

/-! ### Selection (R61, R62) -/

namespace Camera
variable (c : Camera) (now : Word)

/-- One comparison of R61: the next slot is taken when it is not older. -/
def newer (best : Option (Fin 4 × Word)) (x : Fin 4 × Word) : Option (Fin 4 × Word) :=
  match best with
  | none => some x
  | some b => if x.2 ≤ b.2 then some x else some b

theorem newestReady_eq : c.newestReady now = (c.readyAges now).foldl newer none := rfl

/-- The newest READY slot has the smallest age, of equal ages the higher number (R61). -/
theorem newestReady_cases : (c.newestReady now = none ∧ ∀ k : Fin 4, c.slots[k].readyEnd? = none) ∨
    ∃ (j : Fin 4) (e : Word), c.newestReady now = some (j, now - e) ∧ c.slots[j].readyEnd? = some e ∧
      ∀ (k : Fin 4) (e' : Word), c.slots[k].readyEnd? = some e' →
        now - e < now - e' ∨ (now - e' = now - e ∧ k ≤ j) := by
  have hnew : ∀ b x y : Fin 4 × Word, b.1 < x.1 → x.2 ≤ b.2 → (b.2 < y.2 ∨ (y.2 = b.2 ∧ y.1 ≤ b.1)) →
      x.2 < y.2 ∨ (y.2 = x.2 ∧ y.1 ≤ x.1) := by
    rintro b x y hbefore hle (hy | ⟨hy, hnum⟩)
    · exact .inl (Nat.lt_of_le_of_lt (BitVec.le_def.mp hle) (BitVec.lt_def.mp hy))
    · by_cases heq : x.2 = b.2
      · exact .inr ⟨hy.trans heq.symm, hnum.trans (le_of_lt hbefore)⟩
      · exact .inl (hy ▸ BitVec.lt_of_le_ne hle heq)
  have hold : ∀ b x : Fin 4 × Word, b.1 < x.1 → ¬ x.2 ≤ b.2 → b.2 < x.2 ∨ (x.2 = b.2 ∧ x.1 ≤ b.1) :=
    fun b x _ hlt => .inl (BitVec.not_le.mp hlt)
  rw [newestReady_eq]
  rcases foldl_best (g := newer) (fun _ => rfl) (fun _ _ => rfl) (fun _ => .inr ⟨rfl, le_refl _⟩) hnew hold _
    (c.readyAges_rising now) with ⟨hnone, hnil⟩ | ⟨b, hb, hbest, hgood⟩
  · refine .inl ⟨hnone, fun k => ?_⟩
    rw [Option.eq_none_iff_forall_ne_some]
    intro e he
    have hmem := (c.mem_readyAges now (k, now - e)).mpr ⟨e, he, rfl⟩
    rw [hnil] at hmem
    cases hmem
  · obtain ⟨e, he, hage⟩ := (c.mem_readyAges now b).mp hb
    refine .inr ⟨b.1, e, by rw [hbest, ← hage], he, fun k e' he' => ?_⟩
    rw [← hage]
    exact hgood (k, now - e') ((c.mem_readyAges now (k, now - e')).mpr ⟨e', he', rfl⟩)

/-- The slot that no other READY slot beats is the newest (R61). -/
theorem newestReady_of_newest {k : Fin 4} {e : Word} (he : c.slots[k].readyEnd? = some e)
    (h : ∀ (j : Fin 4) (e' : Word), c.slots[j].readyEnd? = some e' →
      now - e < now - e' ∨ (now - e = now - e' ∧ j ≤ k)) : c.newestReady now = some (k, now - e) := by
  rcases c.newestReady_cases now with ⟨-, hnever⟩ | ⟨j, e', hj, he', hbest⟩
  · rw [hnever k] at he
    cases he
  · rcases hbest k e he with hlt | ⟨heq, hle⟩
    · rcases h j e' he' with hlt' | ⟨heq', -⟩
      · exact absurd (BitVec.lt_trans hlt hlt') (BitVec.lt_irrefl _)
      · exact absurd (heq' ▸ hlt) (BitVec.lt_irrefl _)
    · rcases h j e' he' with hlt' | ⟨-, hle'⟩
      · exact absurd (heq ▸ hlt') (BitVec.lt_irrefl _)
      · rw [hj, heq, le_antisymm hle hle']

section answer
variable (i : Fin 4) (p : Params)

theorem answer_of_whyNot {r : Reason} (h : c.whyNot i p now = some r) : c.answer i p now = .unavailable r := by
  rw [answer, h]

/-- The answer of a camera with a newest READY slot, by the tests of Table 3-7. -/
theorem answer_of_newest {k : Fin 4} {age : Word} (h : c.newestReady now = some (k, age)) : c.answer i p now =
    if c.state = .off then .unavailable .off
    else if c.state = .acquiring then .unavailable .acquiring
    else if c.state = .lost then .unavailable .lost
    else if p.exclude.getLsbD i.val = true then .unavailable .excluded
    else if (i = 3 ∧ p.leftOpen = true) ∨ (i = 2 ∧ p.rightOpen = true) then .unavailable .obstructed
    else if c.setup.staleMs * 1000 < age.toNat then .unavailable .stale
    else .available ⟨k, c.slots[k].frame, age, c.setup.width, c.setup.height⟩ := by
  rw [answer, whyNot, h]
  cases c.state with
  | off => rfl
  | acquiring => rfl
  | lost => rfl
  | live =>
    simp only [reduceCtorEq, if_false]
    by_cases hexcluded : p.exclude.getLsbD i.val = true
    · simp only [hexcluded, if_true]
    by_cases hobstructed : (i = 3 ∧ p.leftOpen = true) ∨ (i = 2 ∧ p.rightOpen = true)
    · simp only [hexcluded, hobstructed, Bool.false_eq_true, if_true, if_false]
    by_cases hstale : c.setup.staleMs * 1000 < age.toNat
    · simp only [hexcluded, hobstructed, hstale, Bool.false_eq_true, if_true, if_false]
    · simp only [hexcluded, hobstructed, hstale, Bool.false_eq_true, if_false]

/-- An available answer names a READY slot. -/
theorem ready_of_available {a : Answer} (h : c.answer i p now = .available a) :
    ∃ n x y l u, c.slots[a.slot] = .ready n x y l u := by
  unfold answer at h
  split at h
  · cases h
  · next k age _ hage =>
    cases h
    rcases c.newestReady_cases now with ⟨hnone, -⟩ | ⟨j, e, hj, he, -⟩
    · rw [hnone] at hage
      cases hage
    · have hjk : j = k := congrArg Prod.fst (Option.some.inj (hj.symm.trans hage))
      rw [hjk] at he
      change ∃ n x y l u, c.slots[k] = .ready n x y l u
      cases hslot : c.slots[k] with
      | ready n x y l u => exact ⟨n, x, y, l, u, rfl⟩
      | empty => rw [hslot] at he; cases he
      | filling => rw [hslot] at he; cases he
      | inUse => rw [hslot] at he; cases he
  · cases h

theorem answer_ne_pending : c.answer i p now ≠ .pending := by
  unfold answer
  split <;> simp

theorem selected_of_available {a : Answer} (h : c.answer i p now = .available a) :
    c.selected i p now = { c with slots := c.slots.set a.slot c.slots[a.slot].select } := by
  rw [selected, h]

theorem selected_of_unavailable {r : Reason} (h : c.answer i p now = .unavailable r) : c.selected i p now = c := by
  rw [selected, h]

end answer

end Camera

/-- Settles O35: the tests are `Camera.whyNot`'s, and the candidate is the newest READY slot. -/
theorem selectionAppliesTheTestsInOrder : Obligations.SelectionAppliesTheTestsInOrder := by
  unfold Obligations.SelectionAppliesTheTestsInOrder
  intro c i k p now n fn start fin lines used obstructed
  refine ⟨?off, ?acquiring, ?lost, ?excluded, ?obstructed, ?newest⟩
  case off => exact fun h => c.answer_of_whyNot now i p (by rw [Camera.whyNot, h])
  case acquiring => exact fun h => c.answer_of_whyNot now i p (by rw [Camera.whyNot, h])
  case lost => exact fun h => c.answer_of_whyNot now i p (by rw [Camera.whyNot, h])
  case excluded =>
    intro h hexcluded
    exact c.answer_of_whyNot now i p (by simp only [Camera.whyNot, h]; rw [if_pos hexcluded])
  case obstructed =>
    intro h hincluded hobstructed
    refine c.answer_of_whyNot now i p ?_
    simp only [Camera.whyNot, h]
    rw [if_neg (by rw [hincluded]; simp), if_pos hobstructed]
  case newest =>
    intro hslot hbest hn
    have hready : c.slots[k].readyEnd? = some fin := by rw [hslot]; rfl
    rw [c.answer_of_newest now i p (c.newestReady_of_newest now hready hbest), hslot, ← hn]
    rfl

/-! ### SELECTION_EVENT (R74, R86, R89) -/

theorem Composer.resume_eq (c : Composer) : c.resume = { c with state := c.resume.state } := by
  rcases c.resume_cases with e | ⟨-, e⟩ <;> rw [e]

theorem Composer.resume_of_waiting {c : Composer} (h : c.state = .waiting) {bs : List Byte} {r : TileRecord}
    (hbs : c.recordBytes c.index = some bs) (hr : tileRecordOf bs = some r) :
    c.resume.state = if c.awaits r then .waiting else .issuing := by
  rw [Composer.resume, if_pos h, hbs, Option.bind_some, hr]
  dsimp only
  split
  · exact h
  · rfl

theorem Composer.awaits_eq_false_iff (c : Composer) (r : TileRecord) :
    c.awaits r = false ↔ ∀ i ∈ r.needs, c.selection[i] ≠ .pending := by
  simp only [Composer.awaits, List.any_eq_false, decide_eq_true_eq]

/-- Settles O36: the composer after the event is the one before with the answer and with `Composer.resume`'s state. -/
theorem selectionEventRecordsTheAnswer : Obligations.SelectionEventRecordsTheAnswer := by
  unfold Obligations.SelectionEventRecordsTheAnswer
  intro i s ht
  have hexec : exec (.selectionEvent i) s = .next (selectionEvent i s) :=
    congrArg Host.Outcome.next (unlessAsserted_of_takes _ ht)
  rw [hexec]
  constructor
  · intro harmed
    rw [selectionEvent, if_neg (by rw [harmed]; simp)]
  · intro harmed ans
    let c : Composer := { s.comp with selection := s.comp.selection.set i ans }
    refine ⟨s.cams[i].selected i s.active s.timer.timebase, c.resume.state, ?available, ?ready, ?unavailable, ?other,
      ?waiting, ?event⟩
    case available =>
      intro a n x y l u hans hslot
      rw [Camera.selected_of_available _ _ _ _ hans, hslot]
      rfl
    case ready => exact fun a hans => Camera.ready_of_available _ _ _ _ hans
    case unavailable => exact fun r hans => Camera.selected_of_unavailable _ _ _ _ hans
    case other =>
      intro hother
      rcases c.resume_cases with e | ⟨hwaiting, -⟩
      · rw [e]
      · exact absurd hwaiting hother
    case waiting =>
      intro bs r hwaiting hbs hr
      have hselection : ∀ j : Fin 4, c.selection[j] ≠ .pending ↔ j = i ∨ s.comp.selection[j] ≠ .pending := by
        intro j
        have hget : c.selection[j] = if j = i then ans else s.comp.selection[j] := get_set_fin _ _ _ _
        rw [hget]
        by_cases hj : j = i
        · simp [hj, ans, Camera.answer_ne_pending]
        · simp [hj]
      have hawaits : c.awaits r = false ↔ ∀ j ∈ r.needs, j = i ∨ s.comp.selection[j] ≠ .pending := by
        rw [Composer.awaits_eq_false_iff]
        exact forall₂_congr fun j _ => hselection j
      rw [Composer.resume_of_waiting (c := c) hwaiting hbs hr]
      by_cases hnone : c.awaits r = false
      · rw [if_pos (hawaits.mp hnone), if_neg (by rw [hnone]; simp)]
      · rw [if_neg (hawaits.not.mp hnone), if_pos (by simpa using hnone)]
    case event =>
      have hcomp : c.resume = { s.comp with state := c.resume.state, selection := s.comp.selection.set i ans } :=
        c.resume_eq
      rw [selectionEvent, if_pos harmed]
      change Host.Outcome.next (((s.setCam i _).setTimer _).setComp c.resume) = _
      rw [hcomp]

end Sys2Proof.Machine
end

section
/-! CADENCE_MARK (Sections 4.2, 4.3, 5.2 and 7.1): the state that a mark is settled in, the selections within a
composition start, and the mark that starts nothing. -/

namespace Sys2Proof.Machine

/-! ### Steps 1 and 2 of a mark (R68, R116, R119, R120) -/

theorem Timer.wrap_eq (t : Timer) :
    t.wrap = { t with counter := 0, timing := t.pendingTiming.getD t.timing, pendingTiming := none } := by
  obtain ⟨timebase, counter, timing, pending, armed, lateRun⟩ := t
  cases pending <;> rfl

/-- A new picture has an empty line buffer and, from a slot, the fetch of line 0 (R119, R120). -/
theorem Output.newPicture_eq (o : Output) : o.newPicture = { o with
    source := o.scanning
    places := if o.scanning = none then [] else [⟨0, [], false⟩]
    nextLine := if o.scanning = none then 0 else 1
    linesEnded := 0, reported := false } := by
  unfold Output.newPicture Output.refill
  cases o.scanning <;> simp

theorem Arbiter.unwantIf_isScan (a : Arbiter) : a.unwantIf Client.isScan = match a.port with
    | some ⟨.scan m, x, n, d, _⟩ => { a with port := some ⟨.scan m, x, n, d, false⟩ }
    | _ => a := by
  obtain ⟨port, lastCam, auxLast⟩ := a
  rcases port with _ | ⟨client, x, n, d, w⟩
  · rfl
  · cases client <;> rfl

/-- The output controller at a mark: the slots rotated, and a new picture. -/
def Output.atMark (o : Output) (top : TopState) : Output :=
  { o with
    slots := (o.rotate top).slots, blank := (o.rotate top).blank, source := (o.rotate top).scanning
    places := if (o.rotate top).scanning = none then [] else [⟨0, [], false⟩]
    nextLine := if (o.rotate top).scanning = none then 0 else 1
    linesEnded := 0, reported := false }

theorem Output.newPicture_rotate (o : Output) (top : TopState) : (o.rotate top).newPicture = o.atMark top := by
  rw [Output.newPicture_eq, Output.atMark]
  conv_lhs => rw [Output.rotate_rest]
  rfl

/-- The state that step 3 of R68 settles. -/
def State.atMark (s : State) : State :=
  { s with
    timer := { s.timer with counter := 0, timing := s.timer.pendingTiming.getD s.timer.timing, pendingTiming := none }
    out := s.out.atMark s.top.state
    arb := s.arb.unwantIf Client.isScan }

theorem markDisplay_wrap (s : State) : markDisplay (s.setTimer s.timer.wrap) = s.atMark := by
  rw [markDisplay, Timer.wrap_eq, State.setTimer_out, State.setTimer_top, Output.newPicture_rotate]
  rfl

theorem exec_cadenceMark {s : State} (ht : s.Takes) : exec .cadenceMark s = settleMark s.atMark := by
  change execCadenceMark s = _
  rw [execCadenceMark, if_neg (by rw [ht]; simp), markDisplay_wrap]

theorem Top.wants_iff (t : Top) : t.wants = true ↔ t.state = .run ∨ (t.state = .shot ∧ t.shotPending = true) := by
  unfold Top.wants
  cases t.state <;> simp

/-! ### A mark that starts nothing (R71 to R73) -/

theorem missedMark_eq (s : State) : missedMark s =
    let t := (s.setComp { s.comp with late := s.comp.late + 1#16 }).setTimer { s.timer with lateRun := true }
    if s.timer.lateRun then t else t.notice .late
      (le32 s.timer.timebase.toNat ++ le16 (s.comp.late + 1#16).toNat ++ le16 s.comp.seq.toNat) := by
  obtain ⟨_, _, _, _, _, _, _, _, ⟨timebase, counter, timing, pending, armed, lateRun⟩, _, _, _, _, _, _, _, _, _⟩ := s
  cases lateRun <;> rfl

/-- Settles O38: the state that the mark is settled in, missed or passed. -/
theorem markThatStartsNothingIsMissedOrPasses : Obligations.MarkThatStartsNothingIsMissedOrPasses := by
  unfold Obligations.MarkThatStartsNothingIsMissedOrPasses
  intro s ht wanted timer rot out arb
  have harb : s.atMark.arb = arb := s.arb.unwantIf_isScan
  have hstate : s.atMark = ((s.setTimer timer).setOut out).setArb arb := by
    rw [← harb]
    rfl
  rw [exec_cadenceMark ht, settleMark]
  constructor
  · intro hwanted hbusy t
    rw [if_pos (by exact (Top.wants_iff _).mpr hwanted), if_neg (by exact hbusy), missedMark_eq, hstate]
    rfl
  · intro hunwanted
    rw [if_neg (by exact (Top.wants_iff _).not.mpr hunwanted), passMark, hstate]
    rfl

/-! ### The selections within a composition start (R74) -/

/-- `t` is `v` after the selections of the cameras below `n` whose offset is 0. -/
structure State.SelectedBelow (v : State) (n : Nat) (t : State) : Prop where
  rest : t = { v with
    cams := t.cams
    timer := { v.timer with armed := t.timer.armed }
    comp := { v.comp with selection := t.comp.selection } }
  selected : ∀ i : Fin 4, i.val < n → v.timer.timing.offsets[i] = 0 → t.timer.armed[i] = false ∧
    t.comp.selection[i] = v.cams[i].answer i v.active v.timer.timebase ∧
    t.cams[i] = v.cams[i].selected i v.active v.timer.timebase
  kept : ∀ i : Fin 4, n ≤ i.val ∨ v.timer.timing.offsets[i] ≠ 0 → t.timer.armed[i] = v.timer.armed[i] ∧
    t.comp.selection[i] = v.comp.selection[i] ∧ t.cams[i] = v.cams[i]

theorem Composer.resume_of_issuing {c : Composer} (h : c.state = .issuing) : c.resume = c := by
  rw [Composer.resume, if_neg (by rw [h]; simp)]

/-- A composer in ISSUING does not move at a selection. -/
theorem selectCamera_of_issuing (i : Fin 4) {s : State} (h : s.comp.state = .issuing) : selectCamera i s = { s with
    cams := s.cams.set i (s.cams[i].selected i s.active s.timer.timebase)
    timer := { s.timer with armed := s.timer.armed.set i false }
    comp := { s.comp with
      selection := s.comp.selection.set i (s.cams[i].answer i s.active s.timer.timebase) } } := by
  rw [selectCamera]
  dsimp only
  rw [Composer.resume_of_issuing (by exact h)]
  rfl

theorem State.SelectedBelow.select {v t : State} {i : Fin 4} (hissuing : v.comp.state = .issuing)
    (h : v.SelectedBelow i.val t) :
    v.SelectedBelow (i.val + 1) (if t.timer.timing.offsets[i] = 0 then selectCamera i t else t) := by
  obtain ⟨hrest, hselected, hkept⟩ := h
  have hoffsets : t.timer.timing.offsets = v.timer.timing.offsets := by rw [hrest]
  have hactive : t.active = v.active := by rw [hrest]
  have hnow : t.timer.timebase = v.timer.timebase := by rw [hrest]
  have hstate : t.comp.state = .issuing := by rw [hrest]; exact hissuing
  obtain ⟨-, -, hcam⟩ := hkept i (.inl (le_refl _))
  rw [hoffsets]
  split
  · next hzero =>
    rw [selectCamera_of_issuing i hstate, hcam, hactive, hnow]
    refine ⟨?_, fun j hj hoff => ?_, fun j hj => ?_⟩
    · conv_lhs => rw [hrest]
    · dsimp only
      rw [get_set_fin, get_set_fin, get_set_fin]
      by_cases hji : j = i
      · simp only [hji, if_true, and_self]
      · simp only [hji, if_false]
        exact hselected j (by omega) hoff
    · have hji : j ≠ i := by
        rintro rfl
        rcases hj with h | h
        · omega
        · exact h hzero
      dsimp only
      rw [get_set_fin, get_set_fin, get_set_fin]
      simp only [hji, if_false]
      exact hkept j (hj.imp_left fun h => by omega)
  · next hlater =>
    refine ⟨hrest, fun j hj hoff => hselected j ?_ hoff, fun j hj => hkept j ?_⟩
    · rcases Nat.lt_succ_iff_lt_or_eq.mp hj with h | h
      · exact h
      · rw [Fin.ext h] at hoff
        exact absurd hoff hlater
    · by_cases hji : j = i
      · exact .inr (hji ▸ hlater)
      · rcases hj with h | h
        · exact .inl (by omega)
        · exact .inr h

theorem compositionStart_selects (k : Fin 3) (s : State) :
    (compositionOpen k s).SelectedBelow 4 (compositionStart k s) := by
  have hissuing : (compositionOpen k s).comp.state = .issuing := by rw [compositionOpen_comp]; rfl
  have hopen : (compositionOpen k s).SelectedBelow 0 (compositionOpen k s) :=
    ⟨rfl, fun i hi => absurd hi (by omega), fun i _ => ⟨rfl, rfl, rfl⟩⟩
  exact forCams_keeps (State.SelectedBelow (compositionOpen k s)) (fun i t h => h.select hissuing) hopen

/-! ### A mark that starts a composition (R70, R77, R84, R107, R117) -/

theorem slots3_eq : slots3 = List.finRange 3 := by decide

theorem OutSlot.isFree_iff (x : OutSlot) : x.isFree = true ↔ x = .free := by
  cases x <;> simp [OutSlot.isFree]

theorem Output.lowestFree_eq_some {o : Output} {k : Fin 3} (hfree : o.slots[k] = .free)
    (hlow : ∀ j : Fin 3, j < k → o.slots[j] ≠ .free) : o.lowestFree = some k := by
  rw [Output.lowestFree, slots3_eq, find?_finRange_eq_some_iff]
  exact ⟨(OutSlot.isFree_iff _).mpr hfree, fun j hj => Bool.eq_false_iff.mpr ((OutSlot.isFree_iff _).not.mpr (hlow j hj))⟩

theorem settleMark_of_start {s : State} {k : Fin 3} (hwants : s.top.wants = true) (hidle : s.comp.state = .idle)
    (hk : s.out.lowestFree = some k) (htable : s.staged.table ≠ none) :
    settleMark s = .next (arbitrate (compositionStart k s)) := by
  obtain ⟨es, hes⟩ := Option.ne_none_iff_exists'.mp htable
  rw [settleMark, if_pos hwants, if_pos hidle, hk, hes]

/-- Settles O37: the composition opens in the state of the mark, and the cameras of offset 0 are selected in it. -/
theorem markStartsAComposition : Obligations.MarkStartsAComposition := by
  unfold Obligations.MarkStartsAComposition
  intro k s ht hwanted hidle hpending rot timing hfree hlow htable
  obtain ⟨hrest, hselected, hkept⟩ := compositionStart_selects k s.atMark
  have htimer : (compositionOpen k s.atMark).timer = { s.timer with
      counter := 0, timing := timing, pendingTiming := none, lateRun := false, armed := Vector.replicate 4 true } :=
    compositionOpen_timer k s.atMark
  have hcams : (compositionOpen k s.atMark).cams = s.cams := compositionOpen_cams k s.atMark
  have hactive : (compositionOpen k s.atMark).active = s.staged := compositionOpen_active k s.atMark
  have hcomp : (compositionOpen k s.atMark).comp = s.comp.begin k rot.scanning s.timer.timebase :=
    compositionOpen_comp k s.atMark
  have hoffsets : (compositionOpen k s.atMark).timer.timing.offsets = timing.offsets := by rw [htimer]
  have hnow : (compositionOpen k s.atMark).timer.timebase = s.timer.timebase := by rw [htimer]
  simp only [hoffsets, hcams, hactive, hnow] at hselected hkept
  refine ⟨compositionStart k s.atMark, ?exec, ?active, ?staged, ?timer, ?armed, ?top, ?zones, ?out, ?arb, ?comp, ?cameras,
    ?link, ?slot, ?stopOwed, ?banks, ?mem, ?pending, ?ties, ?memStart, ?resetAsserted⟩
  case exec =>
    rw [exec_cadenceMark ht]
    exact settleMark_of_start ((Top.wants_iff _).mpr hwanted) hidle (Output.lowestFree_eq_some hfree hlow) htable
  case active => rw [hrest]; exact hactive
  case staged => rw [hrest]; exact compositionOpen_staged k s.atMark
  case timer =>
    rw [hrest]
    dsimp only
    rw [htimer]
  case armed =>
    intro i
    by_cases hoff : timing.offsets[i] = 0
    · rw [(hselected i i.isLt hoff).1]
      simp [hoff]
    · rw [(hkept i (.inr hoff)).1, htimer, decide_eq_true hoff]
      simp
  case top => rw [hrest]; exact compositionOpen_top k s.atMark
  case zones =>
    intro z
    rw [hrest]
    dsimp only
    rw [compositionOpen_zones]
    simp [Zone.cleared]
  case out => rw [hrest]; exact compositionOpen_out k s.atMark
  case arb =>
    rw [hrest]
    exact (compositionOpen_arb k s.atMark).trans s.arb.unwantIf_isScan
  case comp =>
    rw [hrest]
    dsimp only
    rw [hcomp]
    rfl
  case cameras =>
    intro i
    split
    · next hoff => exact (hselected i i.isLt hoff).2
    · next hoff =>
      obtain ⟨-, hsel, hcam⟩ := hkept i (.inr hoff)
      refine ⟨?_, hcam⟩
      rw [hsel, hcomp]
      exact hpending i
  case link => rw [hrest]; exact compositionOpen_link k s.atMark
  case slot => rw [hrest]; exact compositionOpen_slot k s.atMark
  case stopOwed => rw [hrest]; exact compositionOpen_stopOwed k s.atMark
  case banks => rw [hrest]; exact compositionOpen_banks k s.atMark
  case mem => rw [hrest]; exact compositionOpen_mem k s.atMark
  case pending => rw [hrest]; exact compositionOpen_pending k s.atMark
  case ties => rw [hrest]; exact compositionOpen_ties k s.atMark
  case memStart => rw [hrest]; exact compositionOpen_memStart k s.atMark
  case resetAsserted => rw [hrest]; exact compositionOpen_resetAsserted k s.atMark

end Sys2Proof.Machine
end

section
/-! One microsecond (Sections 3.2, 4.1 to 4.4, 7.3 and 7.4): which events it puts in the queue, whatever the tie order. -/

namespace Sys2Proof.Machine

/-! ### The order of ties -/

/-- A tie order drops no group and adds none. -/
theorem mem_tieBreak (k : Nat) (gs : List (List Instr)) (x : List Instr) : x ∈ (tieBreak k gs).1 ↔ x ∈ gs := by
  induction gs with
  | nil => rfl
  | cons g gs ih =>
    rw [List.mem_cons, ← ih, tieBreak]
    split
    · next hnil => simp [hnil]
    · next hcons =>
      rw [hcons, List.mem_insertIdx (Nat.lt_succ_iff.mp (Nat.mod_lt _ (Nat.succ_pos _)))]

theorem mem_tieBreak_flatten (k : Nat) (gs : List (List Instr)) (e : Instr) :
    e ∈ (tieBreak k gs).1.flatten ↔ ∃ g ∈ gs, e ∈ g := by
  simp only [List.mem_flatten, mem_tieBreak]

/-! ### The events due (R47, R68, R74, R120, R121) -/

theorem mem_dueGroups (s : State) (e : Instr) : (∃ g ∈ dueGroups s, e ∈ g) ↔
    (e = .cadenceMark ∧ s.timer.nextCounter = 0) ∨
    (∃ i : Fin 4, e = .selectionEvent i ∧ s.timer.armed[i] = true ∧ s.timer.nextCounter ≠ 0 ∧
      s.timer.timing.offsets[i] = s.timer.nextCounter) ∨
    (∃ i : Fin 4, e = .lossTimerExpiry i ∧ s.cams[i].loss = some 1) ∨
    (s.timer.nextCounter ≠ 0 ∧ e ∈ displayDue s.out s.timer.lineTime s.timer.nextCounter) := by
  simp only [dueGroups, List.mem_append, or_and_right, exists_or, or_assoc]
  refine or_congr ?mark (or_congr ?points (or_congr ?losses ?display))
  case mark => split <;> simp_all
  case points =>
    simp only [List.mem_filterMap, mem_cams4, true_and, Option.ite_none_right_eq_some, Option.some.injEq]
    constructor
    · rintro ⟨g, ⟨i, h, rfl⟩, he⟩
      exact ⟨i, List.mem_singleton.mp he, h⟩
    · rintro ⟨i, rfl, h⟩
      exact ⟨_, ⟨i, h, rfl⟩, List.mem_singleton_self _⟩
  case losses =>
    simp only [List.mem_filterMap, mem_cams4, true_and, Option.ite_none_right_eq_some, Option.some.injEq]
    constructor
    · rintro ⟨g, ⟨i, h, rfl⟩, he⟩
      exact ⟨i, List.mem_singleton.mp he, h⟩
    · rintro ⟨i, rfl, h⟩
      exact ⟨_, ⟨i, h, rfl⟩, List.mem_singleton_self _⟩
  case display =>
    by_cases hzero : s.timer.nextCounter = 0
    · simp [hzero]
    · simp only [hzero, if_false, ne_eq, not_false_eq_true, true_and]
      split <;> simp_all

/-- The display's events, each by the test that `displayDue` makes. -/
theorem mem_displayDue (o : Output) (l t : Nat) (e : Instr) : e ∈ displayDue o l t ↔ (o.source ≠ none ∧ l ≠ 0) ∧
    ((e = .lineTimeEnd ∧ 2 * l ≤ t ∧ t % l = 0 ∧ t / l ≤ 769) ∨
      (e = .lineUnderrun ∧ (l ≤ t ∧ t / l - 1 ≤ 767) ∧ ∃ p ∈ o.places, p.line = t / l - 1 ∧
        p.fetching = true ∧ p.got.length / 3 ≤ lastPixelSent l (t % l))) := by
  unfold displayDue
  by_cases hnone : o.source.isNone = true ∨ l = 0
  · have hno : ¬ (o.source ≠ none ∧ l ≠ 0) := by
      rintro ⟨hsource, hl⟩
      exact hnone.elim (fun h => hsource (Option.isNone_iff_eq_none.mp h)) hl
    rw [if_pos hnone]
    simp only [hno, false_and, List.not_mem_nil]
  · have hyes : o.source ≠ none ∧ l ≠ 0 := by
      rwa [not_or, Option.isNone_iff_eq_none] at hnone
    rw [if_neg hnone, and_iff_right hyes]
    dsimp only
    rw [List.mem_append]
    refine or_congr ?_ ?_
    · split <;> simp_all
    · by_cases hsent : l ≤ t ∧ t / l - 1 ≤ 767
      · simp only [hsent, if_true, true_and, List.any_eq_true, Bool.and_eq_true, decide_eq_true_eq, and_assoc]
        split <;> simp_all
      · simp only [hsent, if_false, false_and, and_false, Bool.false_eq_true, List.not_mem_nil]

theorem displayDue_cases {o : Output} {l t : Nat} {e : Instr} (h : e ∈ displayDue o l t) :
    e = .lineTimeEnd ∨ e = .lineUnderrun :=
  ((mem_displayDue o l t e).mp h).2.imp And.left And.left

/-- Line n's time ends at (n + 2) × L (R120). -/
theorem lineTimeEnd_mem_displayDue {o : Output} {l t : Nat} (hl : 0 < l) :
    Instr.lineTimeEnd ∈ displayDue o l t ↔ o.source ≠ none ∧ ∃ m < 768, t = (m + 2) * l := by
  have htime : (2 * l ≤ t ∧ t % l = 0 ∧ t / l ≤ 769) ↔ ∃ m < 768, t = (m + 2) * l := by
    constructor
    · rintro ⟨htwo, hmod, hlast⟩
      have hfrom : 2 ≤ t / l := (Nat.le_div_iff_mul_le hl).mpr htwo
      refine ⟨t / l - 2, by omega, ?_⟩
      rw [Nat.sub_add_cancel hfrom, Nat.div_mul_cancel (Nat.dvd_of_mod_eq_zero hmod)]
    · rintro ⟨m, hm, rfl⟩
      rw [Nat.mul_mod_left, Nat.mul_div_cancel _ hl]
      exact ⟨Nat.mul_le_mul_right l (by omega), rfl, by omega⟩
  rw [mem_displayDue, ← htime]
  simp [Nat.ne_of_gt hl]

theorem le_lastPixelSent_iff {l d k : Nat} (hl : 0 < l) (hk : k < 512) : k ≤ lastPixelSent l d ↔ k * l / 512 ≤ d := by
  rw [lastPixelSent, le_min_iff, Nat.le_div_iff_mul_le hl]
  omega

theorem LinePlace.fetching_iff (p : LinePlace) : p.fetching = true ↔ p.dropped = false ∧ p.got.length < 1536 := by
  rw [LinePlace.fetching, Bool.and_eq_true, Bool.not_eq_true', decide_eq_true_eq]
  rfl

/-- The last pixel sent of a line has not arrived just when some pixel that has left the port has not. -/
theorem lateness_iff {l d n : Nat} (hl : 0 < l) :
    (n < 1536 ∧ n / 3 ≤ lastPixelSent l d) ↔ ∃ k < 512, k * l / 512 ≤ d ∧ n < 3 * k + 3 := by
  have hlast : lastPixelSent l d < 512 := by
    rw [lastPixelSent]
    omega
  constructor
  · rintro ⟨-, hlate⟩
    exact ⟨lastPixelSent l d, hlast, (le_lastPixelSent_iff hl hlast).mp (le_refl _), by omega⟩
  · rintro ⟨k, hk, hsent, hmissing⟩
    have hle := (le_lastPixelSent_iff hl hk).mpr hsent
    exact ⟨by omega, by omega⟩

/-- The port has come to a pixel that has not arrived (R121). -/
theorem lineUnderrun_mem_displayDue {o : Output} {l t : Nat} (hl : 0 < l) :
    Instr.lineUnderrun ∈ displayDue o l t ↔ o.source ≠ none ∧ ∃ p ∈ o.places, p.line < 768 ∧ p.dropped = false ∧
      t < (p.line + 2) * l ∧ ∃ k < 512, (p.line + 1) * l + k * l / 512 ≤ t ∧ p.got.length < 3 * k + 3 := by
  have hplace : ∀ p : LinePlace, ((l ≤ t ∧ t / l - 1 ≤ 767) ∧ p.line = t / l - 1 ∧ p.fetching = true ∧
      p.got.length / 3 ≤ lastPixelSent l (t % l)) ↔ p.line < 768 ∧ p.dropped = false ∧ t < (p.line + 2) * l ∧
        ∃ k < 512, (p.line + 1) * l + k * l / 512 ≤ t ∧ p.got.length < 3 * k + 3 := by
    intro p
    rw [p.fetching_iff, and_assoc (a := p.dropped = false), lateness_iff hl]
    have hdiv : t = t / l * l + t % l := (Nat.div_add_mod' t l).symm
    constructor
    · rintro ⟨⟨hfrom, hto⟩, hline, hdropped, k, hk, hsent, hmissing⟩
      have hone : 1 ≤ t / l := (Nat.le_div_iff_mul_le hl).mpr (by omega)
      have hq : p.line + 1 = t / l := by omega
      refine ⟨by omega, hdropped, ?_, k, hk, ?_, hmissing⟩
      · rw [show p.line + 2 = t / l + 1 by omega, Nat.add_mul]
        have := Nat.mod_lt t hl
        omega
      · rw [hq]
        omega
    · rintro ⟨hline, hdropped, hbefore, k, hk, hsent, hmissing⟩
      have hq : t / l = p.line + 1 := Nat.div_eq_of_lt_le (by omega) hbefore
      refine ⟨⟨?_, by omega⟩, by omega, hdropped, k, hk, ?_, hmissing⟩
      · exact (Nat.div_pos_iff.mp (by omega : 0 < t / l)).2
      · rw [hq] at hdiv
        omega
  rw [mem_displayDue]
  simp only [ne_eq, Nat.ne_of_gt hl, not_false_eq_true, and_true, reduceCtorEq, false_and, false_or, true_and]
  refine and_congr_right fun _ => ?_
  constructor
  · rintro ⟨hsent, p, hp, h⟩
    exact ⟨p, hp, (hplace p).mp ⟨hsent, h⟩⟩
  · rintro ⟨p, hp, h⟩
    obtain ⟨hsent, h'⟩ := (hplace p).mpr h
    exact ⟨hsent, p, hp, h'⟩

/-- Settles O2: the tie order moves the due groups and changes none. -/
theorem emptyQueueStepPassesOneMicrosecond : Obligations.EmptyQueueStepPassesOneMicrosecond := by
  unfold Obligations.EmptyQueueStepPassesOneMicrosecond
  intro s hpending ht
  have hq : ∀ e, e ∈ (tieBreak s.ties (dueGroups s)).1.flatten ↔ _ := fun e =>
    (mem_tieBreak_flatten s.ties (dueGroups s) e).trans (mem_dueGroups s e)
  have hnot : ∀ e, e ≠ .lineTimeEnd → e ≠ .lineUnderrun →
      e ∉ displayDue s.out s.timer.lineTime s.timer.nextCounter := fun e h1 h2 h =>
    (displayDue_cases h).elim h1 h2
  refine ⟨(tieBreak s.ties (dueGroups s)).1.flatten, (tieBreak s.ties (dueGroups s)).2, ?_⟩
  intro c l
  have hc : s.timer.nextCounter = c := rfl
  have hl' : s.timer.lineTime = l := rfl
  simp only [hc, hl'] at hq hnot
  refine ⟨?step, ?mark, fun i => ?point, fun i => ?loss, fun hl => ⟨?lineEnd, ?underrun⟩, fun e he => ?kinds⟩
  case step =>
    rw [step, hpending, tick, if_neg (by rw [ht]; simp)]
    simp only [hpending, List.nil_append]
    rfl
  case mark =>
    rw [hq]
    simp [hnot]
  case point =>
    rw [hq]
    simp [hnot]
  case loss =>
    rw [hq]
    simp [hnot]
  case lineEnd =>
    rw [hq, lineTimeEnd_mem_displayDue hl]
    simp only [reduceCtorEq, false_and, exists_false, false_or, and_iff_right_iff_imp]
    rintro ⟨-, m, -, hm⟩
    rw [hm]
    exact Nat.ne_of_gt (Nat.mul_pos (by omega) hl)
  case underrun =>
    rw [hq, lineUnderrun_mem_displayDue hl]
    simp only [reduceCtorEq, false_and, exists_false, false_or, and_iff_right_iff_imp]
    rintro ⟨-, p, -, -, -, -, k, -, hsent, -⟩
    have hpos : 0 < (p.line + 1) * l := Nat.mul_pos (by omega) hl
    omega
  case kinds =>
    rcases (hq e).mp he with ⟨h, -⟩ | ⟨i, h, -⟩ | ⟨i, h, -⟩ | ⟨-, h⟩
    · exact .inl h
    · exact .inr (.inl ⟨i, h⟩)
    · exact .inr (.inr (.inl ⟨i, h⟩))
    · exact .inr (.inr (.inr (displayDue_cases h)))

end Sys2Proof.Machine
end

section
/-! The pixel arithmetic of Section 1 that the statements O57 and O60 are about: the bank pair of a height, the
sample, gain and blend of a pixel, and a camera's pixel among the bytes that SAMPLE read. -/

namespace Sys2Proof.Machine

/-! ### The bank pair of a height (R4) -/

/-- Entries at or below the height are passed over, up to the last of them. -/
theorem pairFrom_append_of_le (h : Int) (e : TableEntry) (r : List TableEntry) (hle : e.key ≤ h) :
    ∀ (l : List TableEntry) (d : TableEntry), (∀ x ∈ l, x.key < e.key) → pairFrom h d (l ++ e :: r) = pairFrom h e r
  | [], d, _ => by rw [List.nil_append, pairFrom, if_neg (by omega)]
  | x :: l, d, hl => by
    have hx : x.key < e.key := hl x List.mem_cons_self
    rw [List.cons_append, pairFrom, if_neg (by omega)]
    exact pairFrom_append_of_le h e r hle l x fun y hy => hl y (List.mem_cons_of_mem x hy)

/-- The pair is decided at the last entry at or below the height, wherever it stands in the table. -/
theorem pairOf_append_of_le (h : Int) (l r : List TableEntry) (e : TableEntry)
    (hkeys : ((l ++ e :: r).map TableEntry.key).Pairwise (· < ·)) (hle : e.key ≤ h) (hfirst : l = [] → e.key < h) :
    pairOf h (l ++ e :: r) = some (pairFrom h e r) := by
  cases l with
  | nil => rw [List.nil_append, pairOf, if_neg (by have := hfirst rfl; omega)]
  | cons d l =>
    rw [List.map_append, List.pairwise_append] at hkeys
    obtain ⟨_, _, hbefore⟩ := hkeys
    have below (x : TableEntry) (hx : x ∈ d :: l) : x.key < e.key :=
      hbefore _ (List.mem_map_of_mem hx) _ (List.mem_map_of_mem List.mem_cons_self)
    have hd := below d List.mem_cons_self
    rw [List.cons_append, pairOf, if_neg (by omega),
      pairFrom_append_of_le h e r hle l d fun x hx => below x (List.mem_cons_of_mem d hx)]

/-- The fraction between two keys is a natural number below 256. -/
theorem keyFraction_lt (h k k' : Int) (hle : k ≤ h) (hlt : h < k') :
    0 ≤ (h - k) * 256 / (k' - k) ∧ (h - k) * 256 / (k' - k) < 256 :=
  ⟨Int.ediv_nonneg (by omega) (by omega), Int.ediv_lt_of_lt_mul (by omega) (by omega)⟩

/-- Settles O57: entries at or below the height are passed over, and the pair is read at the last of them. -/
theorem bankPairFollowsTheHeight : Obligations.BankPairFollowsTheHeight := by
  unfold Obligations.BankPairFollowsTheHeight
  intro h es hkeys
  refine ⟨?_, ?_, ?_⟩
  · rintro e rest rfl (rfl | hle)
    · by_cases hle : h ≤ e.key <;> simp [pairOf, pairFrom, hle]
    · rw [pairOf, if_pos hle]
  · rintro e es' rfl hle
    by_cases hfirst : es' = [] → e.key < h
    · rw [pairOf_append_of_le h es' [] e hkeys hle hfirst, pairFrom]
    · obtain ⟨rfl, hnot⟩ := Classical.not_imp.mp hfirst
      rw [List.nil_append, pairOf, if_pos (by omega)]
  · rintro l r e e' rfl hle hlt hfirst
    obtain ⟨hnonneg, hbound⟩ := keyFraction_lt h e.key e'.key hle hlt
    refine ⟨((h - e.key) * 256 / (e'.key - e.key)).toNat, Int.toNat_of_nonneg hnonneg, by omega, ?_⟩
    rw [pairOf_append_of_le h l (e' :: r) e hkeys hle hfirst, pairFrom, if_pos hlt]

end Sys2Proof.Machine
end

section
/-! Sampling, gain and blend of a pixel, and a camera's pixel among the bytes that SAMPLE read (O60). -/

namespace Sys2Proof.Machine

/-! ### Values within a byte (R13, R14, R16) -/

theorem toNat_byteOf {n : Nat} (h : n < 256) : (byteOf n).toNat = n := by
  rw [byteOf, BitVec.toNat_ofNat, Nat.mod_eq_of_lt h]

theorem byteOf_toNat (b : Byte) : byteOf b.toNat = b := by
  simp [byteOf]

/-- The four weights of a sample sum to 256. -/
theorem sampleWeights_sum {s t : Nat} (hs : s < 16) (ht : t < 16) :
    (16 - s) * (16 - t) + s * (16 - t) + (16 - s) * t + s * t = 256 :=
  calc _ = (16 - s + s) * (16 - t + t) := by ring
    _ = 256 := by rw [Nat.sub_add_cancel hs.le, Nat.sub_add_cancel ht.le]

/-- Source values that are all at most a bound give a sample that is at most it. -/
theorem sampleMix_le {s t : Nat} (hs : s < 16) (ht : t < 16) {a b c d n : Nat} (ha : a ≤ n) (hb : b ≤ n) (hc : c ≤ n)
    (hd : d ≤ n) : sampleMix s t a b c d ≤ n := by
  unfold sampleMix
  have hweights : n * ((16 - s) * (16 - t)) + n * (s * (16 - t)) + n * ((16 - s) * t) + n * (s * t) = n * 256 := by
    rw [← Nat.mul_add, ← Nat.mul_add, ← Nat.mul_add, sampleWeights_sum hs ht]
  have h00 := Nat.mul_le_mul_right ((16 - s) * (16 - t)) ha
  have h10 := Nat.mul_le_mul_right (s * (16 - t)) hb
  have h01 := Nat.mul_le_mul_right ((16 - s) * t) hc
  have h11 := Nat.mul_le_mul_right (s * t) hd
  omega

theorem sampleMix_self {s t : Nat} (hs : s < 16) (ht : t < 16) (n : Nat) : sampleMix s t n n n n = n := by
  unfold sampleMix
  rw [← Nat.mul_add, ← Nat.mul_add, ← Nat.mul_add, sampleWeights_sum hs ht]
  omega

/-- A sample on a source pixel is that pixel's own value. -/
theorem sampleMix_zero (a b c d : Nat) : sampleMix 0 0 a b c d = a := by
  unfold sampleMix
  omega

theorem byte_le (b : Byte) : b.toNat ≤ 255 := Nat.le_of_lt_succ b.isLt

theorem sampleMix_lt {s t : Nat} (hs : s < 16) (ht : t < 16) (a b c d : Byte) :
    sampleMix s t a.toNat b.toNat c.toNat d.toNat < 256 :=
  Nat.lt_succ_of_le (sampleMix_le hs ht (byte_le a) (byte_le b) (byte_le c) (byte_le d))

theorem gainLuma_unit (b : Byte) : gainLuma b.toNat 256 = b.toNat := by
  have := byte_le b
  unfold gainLuma
  omega

/-- At gain 256 a pixel stays as it is. -/
theorem postGain_unit (p : Pixel) : postGain 256 p = p := by
  rw [postGain, gainLuma_unit, byteOf_toNat]

theorem toNat_postGain_y (gain : Nat) (p : Pixel) :
    (postGain gain p).y.toNat = min 255 ((p.y.toNat * gain + 128) / 256) :=
  toNat_byteOf (Nat.lt_succ_of_le (Nat.min_le_left _ _))

/-- A blended value lies between the two cameras' values, whose weights sum to 256. -/
theorem blendMix_between {w : Nat} (hw : w < 256) (a b : Nat) :
    min a b ≤ blendMix w a b ∧ blendMix w a b ≤ max a b := by
  unfold blendMix
  have hsplit (n : Nat) : n * (256 - w) + n * w = n * 256 := by
    rw [← Nat.mul_add, Nat.sub_add_cancel hw.le]
  have hmin := hsplit (min a b)
  have hmax := hsplit (max a b)
  have hmina := Nat.mul_le_mul_right (256 - w) (Nat.min_le_left a b)
  have hminb := Nat.mul_le_mul_right w (Nat.min_le_right a b)
  have hmaxa := Nat.mul_le_mul_right (256 - w) (Nat.le_max_left a b)
  have hmaxb := Nat.mul_le_mul_right w (Nat.le_max_right a b)
  omega

theorem blendMix_lt {w : Nat} (hw : w < 256) (a b : Byte) : blendMix w a.toNat b.toNat < 256 := by
  have hle := (blendMix_between hw a.toNat b.toNat).2
  have ha := byte_le a
  have hb := byte_le b
  omega

/-- At weight 0 the secondary camera counts for nothing. -/
theorem blendPixel_zero (pri sec : Pixel) : blendPixel 0 pri sec = pri := by
  have hmix (a b : Byte) : byteOf (blendMix 0 a.toNat b.toNat) = a := by
    rw [show blendMix 0 a.toNat b.toNat = a.toNat by unfold blendMix; omega, byteOf_toNat]
  rw [blendPixel, hmix, hmix, hmix]

/-! ### A camera's pixel among the bytes that SAMPLE read (R11, R12, R95) -/

/-- The bytes of a view's spans, in the order in which SAMPLE reads them. -/
def spanBytes (m : List Host.Cell) (v : View) (spans : List Span) : List Byte :=
  spans.flatMap fun sp => Memory.readRun m (sp.run v).addr sp.bytes

theorem length_spanBytes (m : List Host.Cell) (v : View) (spans : List Span) :
    (spanBytes m v spans).length = (spans.map Span.bytes).sum := by
  simp [spanBytes, Memory.readRun_length, List.length_flatMap]

/-- SAMPLE reads one view's spans after another's. -/
theorem readRuns_sampleRuns (t : Tile) (fetched : List Byte) (m : List Host.Cell) (h : t.fromCameras = true) :
    ((t.sampleRuns fetched).flatMap fun r => Memory.readRun m r.addr r.len) =
      t.views.zipIdx.flatMap fun vi => spanBytes m vi.1 (t.viewSpans fetched vi.2 vi.1) := by
  simp only [Tile.sampleRuns, if_pos h, List.flatMap_assoc, List.flatMap_map]
  rfl

/-- A camera without a view among the tile's views has no view data. -/
theorem viewData_find?_none (t : Tile) (fetched : List Byte) (c : Fin 4) :
    ∀ (vs : List (View × Nat)) (bytes : List Byte), (∀ vi ∈ vs, vi.1.cam ≠ c) →
      (t.viewData fetched vs bytes).find? (fun d => decide (d.view.cam = c)) = none
  | [], _, _ => rfl
  | (v, i) :: vs, bytes, h => by
    have hv : v.cam ≠ c := h (v, i) List.mem_cons_self
    rw [Tile.viewData, List.find?_cons_of_neg (by simpa using hv)]
    exact viewData_find?_none t fetched c vs _ fun vi hvi => h vi (List.mem_cons_of_mem _ hvi)

theorem cameraPixel_of_find? {ds : List ViewData} (gains : Vector Nat 4) (c : Fin 4) (x y : Nat) {d : ViewData}
    (h : ds.find? (fun d => decide (d.view.cam = c)) = some d) : cameraPixel ds gains c x y = d.pixel gains x y := by
  simp only [cameraPixel, h]

/-- The view data of a view is found by its camera, and starts with the bytes of its own spans. -/
theorem viewData_find?_some (t : Tile) (fetched : List Byte) (m : List Host.Cell) (v : View) (i : Nat) :
    ∀ vs : List (View × Nat), (vs.map fun vi => vi.1.cam).Nodup → (v, i) ∈ vs →
      ∃ tail, (t.viewData fetched vs (vs.flatMap fun vi => spanBytes m vi.1 (t.viewSpans fetched vi.2 vi.1))).find?
          (fun d => decide (d.view.cam = v.cam)) =
        some ⟨v, t.points fetched i, t.viewSpans fetched i v, spanBytes m v (t.viewSpans fetched i v) ++ tail⟩
  | [], _, hmem => absurd hmem List.not_mem_nil
  | (w, j) :: vs, hnodup, hmem => by
    rw [List.map_cons, List.nodup_cons] at hnodup
    obtain ⟨hnew, hrest⟩ := hnodup
    rw [Tile.viewData, List.flatMap_cons]
    rcases List.mem_cons.mp hmem with heq | hmem
    · obtain ⟨rfl, rfl⟩ := Prod.mk.inj heq
      exact ⟨_, List.find?_cons_of_pos (by simp)⟩
    · have hw : w.cam ≠ v.cam := fun e => hnew (List.mem_map.mpr ⟨(v, i), hmem, e.symm⟩)
      rw [List.find?_cons_of_neg (by simpa using hw), List.drop_left' (length_spanBytes m w _)]
      exact viewData_find?_some t fetched m v i vs hrest hmem

/-- The pixel of a camera's frame in DRAM at column `p` and row `q`, each clamped to the frame (R12). -/
def View.sourceAt (v : View) (m : List Host.Cell) (p q : Nat) : Pixel :=
  let a := ringAddr v.cam v.answer.slot + 3840 * clampTo v.answer.height q + 3 * clampTo v.answer.width p
  ⟨Memory.read m a, Memory.read m (a + 1), Memory.read m (a + 2)⟩

/-- A covered column of a covered row is found among the bytes of a view's spans. -/
theorem sourcePixel_spanBytes (m : List Host.Cell) (v : View) (l : List Span) (h : Span.Rising l) (tail : List Byte)
    {lo hi p q : Nat} (hcov : Span.Covered l (clampTo v.answer.height q) lo hi)
    (hlo : lo ≤ clampTo v.answer.width p) (hhi : clampTo v.answer.width p ≤ hi) :
    sourcePixel l (spanBytes m v l ++ tail) (clampTo v.answer.height q) (clampTo v.answer.width p) =
      v.sourceAt m p q := by
  obtain ⟨sp, hmem, hrow, hsplo, hsphi⟩ := hcov
  have hfound := sourcePixel_found m (fun sp => (sp.run v).addr) l h sp hmem (clampTo v.answer.width p)
    (hsplo.trans hlo) (hhi.trans hsphi) tail
  have haddr : (sp.run v).addr + 3 * (clampTo v.answer.width p - sp.lo) =
      ringAddr v.cam v.answer.slot + 3840 * clampTo v.answer.height q + 3 * clampTo v.answer.width p := by
    have hle := hsplo.trans hlo
    simp only [Span.run, hrow]
    omega
  rw [hrow] at hfound
  simp only [haddr] at hfound
  exact hfound

theorem clampTo_mono (size : Nat) {p p' : Nat} (h : p ≤ p') : clampTo size p ≤ clampTo size p' := by
  unfold clampTo
  omega

/-- A camera's pixel with a source position is sampled from four pixels of its frame in DRAM. -/
theorem ViewData.pixel_of_sourcePos (m : List Host.Cell) (gains : Vector Nat 4) (v : View)
    (pts : List (Option (Nat × Nat))) (tail : List Byte) {x y u w : Nat} (hx : x < 32) (hy : y < 32)
    (hpos : sourcePos pts x y = some (u, w)) :
    ViewData.pixel ⟨v, pts, spansOf pts v.answer, spanBytes m v (spansOf pts v.answer) ++ tail⟩ gains x y =
      some (postGain gains[v.cam] (samplePixel (u % 16) (w % 16) (v.sourceAt m (u / 16) (w / 16))
        (v.sourceAt m (u / 16 + 1) (w / 16)) (v.sourceAt m (u / 16) (w / 16 + 1))
        (v.sourceAt m (u / 16 + 1) (w / 16 + 1)))) := by
  obtain ⟨hupper, hlower⟩ := spansOf_covers pts v.answer x y u w hx hy hpos
  have hrising := spansOf_rising pts v.answer
  have hcols : clampTo v.answer.width (u / 16) ≤ clampTo v.answer.width (u / 16 + 1) := clampTo_mono _ (by omega)
  simp only [ViewData.pixel, hpos]
  rw [sourcePixel_spanBytes m v _ hrising tail hupper le_rfl hcols,
    sourcePixel_spanBytes m v _ hrising tail hupper hcols le_rfl,
    sourcePixel_spanBytes m v _ hrising tail hlower le_rfl hcols,
    sourcePixel_spanBytes m v _ hrising tail hlower hcols le_rfl]

/-- Settles O60: the weights of each mean sum to 256, and each view's bytes stand where its spans were read. -/
theorem sampleGainAndBlendStayInRange : Obligations.SampleGainAndBlendStayInRange := by
  unfold Obligations.SampleGainAndBlendStayInRange
  refine ⟨?_, ?_, ?_, ?_, ?_⟩
  · intro s t p00 p10 p01 p11 hs ht
    exact ⟨rfl, sampleMix_lt hs ht p00 p10 p01 p11, sampleMix_zero _ _ _ _, sampleMix_self hs ht _⟩
  · intro s t a b c d hs ht
    exact ⟨toNat_byteOf (sampleMix_lt hs ht _ _ _ _), toNat_byteOf (sampleMix_lt hs ht _ _ _ _),
      toNat_byteOf (sampleMix_lt hs ht _ _ _ _)⟩
  · intro gain p _ _
    exact ⟨toNat_postGain_y gain p, rfl, rfl, postGain_unit p⟩
  · intro w pri sec hw mix
    obtain ⟨hlow, hhigh⟩ := blendMix_between hw pri.y.toNat sec.y.toNat
    exact ⟨toNat_byteOf (blendMix_lt hw _ _), toNat_byteOf (blendMix_lt hw _ _), toNat_byteOf (blendMix_lt hw _ _),
      hlow, hhigh, blendPixel_zero pri sec⟩
  · intro t fetched m gains x y hcams hnodup hx hy got pixel
    have hgot := readRuns_sampleRuns t fetched m hcams
    have hnames : (t.views.zipIdx.map fun vi => vi.1.cam) = t.views.map View.cam := by
      calc _ = (t.views.zipIdx.map Prod.fst).map View.cam := (List.map_map ..).symm
        _ = _ := by rw [List.zipIdx_map_fst]
    constructor
    · intro c hc
      have hnone := viewData_find?_none t fetched c t.views.zipIdx got fun vi hvi e =>
        hc (hnames ▸ List.mem_map.mpr ⟨vi, hvi, e⟩)
      simp only [pixel, cameraPixel, hnone]
    · intro i v hv at'
      obtain ⟨tail, hfind⟩ := viewData_find?_some t fetched m v i t.views.zipIdx (hnames ▸ hnodup)
        (List.mem_zipIdx_iff_getElem?.mpr hv)
      rw [← hgot] at hfind
      have hpixel := cameraPixel_of_find? gains v.cam x y hfind
      refine ⟨fun hnone => ?_, fun u w hpos => ?_⟩
      · exact hpixel.trans (by simp only [ViewData.pixel, hnone])
      · exact hpixel.trans (ViewData.pixel_of_sourcePos m gains v _ tail hx hy hpos)

end Sys2Proof.Machine
end

section
/-! The pipeline of the composer round by round (R94, R95), and the tile decision (O40). -/

namespace Sys2Proof.Machine

/-! ### One move of the pipeline -/

namespace Composer

/-- No tile waits in SAMPLE with its pixels known while STORE is empty. -/
def StoreRest (sample : Option SampleStage) (store : Option StoreStage) : Prop :=
  sample = none ∨ store ≠ none ∨ ∃ t f td g, sample = some ⟨t, f, td, g, none⟩

theorem toStore_of_known {c : Composer} {t : Tile} {f : List Byte} {td : List Run} {g px : List Byte}
    (hsample : c.sample = some ⟨t, f, td, g, some px⟩) (hstore : c.store = none) :
    c.toStore = { c with sample := none, store := some ⟨t, px, 0⟩ } := by
  simp only [toStore, hsample, hstore]

/-- The move to STORE changes SAMPLE and STORE alone, and leaves nothing for a second one. -/
theorem toStore_whole (c : Composer) :
    ∃ x y, c.toStore = { c with sample := x, store := y } ∧ StoreRest x y := by
  rcases hstore : c.store with _ | st
  · rcases hsample : c.sample with _ | ⟨t, f, td, g, _ | px⟩
    · exact ⟨c.sample, c.store, toStore_of_rest c (.inl hsample), .inl hsample⟩
    · have hunknown : StoreRest c.sample c.store := .inr (.inr ⟨t, f, td, g, hsample⟩)
      exact ⟨c.sample, c.store, toStore_of_rest c hunknown, hunknown⟩
    · exact ⟨_, _, toStore_of_known hsample hstore, .inl rfl⟩
  · have hfull : c.store ≠ none := by simp [hstore]
    exact ⟨c.sample, c.store, toStore_of_rest c (.inr (.inl hfull)), .inr (.inl hfull)⟩

theorem toSample_of_done {c : Composer} (p : Params) {t : Tile} {got : List Byte}
    (hfetch : c.fetch = some ⟨t, [], got⟩) (hsample : c.sample = none) : c.toSample p = { c with
      fetch := none
      sample := some ⟨t, got, (t.sampleRuns got).flatMap Run.cut, [],
        if t.fromCameras then none else some (t.copied p got)⟩ } := by
  simp only [toSample, hfetch, hsample]

theorem issue_of_busy {c : Composer} (h : c.fetch ≠ none) : c.issue = c := by
  unfold issue
  split
  · exact absurd ‹_› h
  · rfl

/-! ### Rounds of moves -/

/-- Nothing is left to issue: no tile is decided, or the composer is not in ISSUING. -/
def NothingToIssue (c : Composer) : Prop := c.decided = none ∨ c.state ≠ .issuing

theorem NothingToIssue.of_sameIssued {c d : Composer} (h : c.NothingToIssue) (g : c.SameIssued d) : d.NothingToIssue :=
  h.imp g.decided.trans fun hstate e => hstate (g.state.symm.trans e)

theorem moves_sameIssued (c : Composer) (p : Params) : c.SameIssued (c.toStore.toSample p) :=
  c.toStore_issued.trans (c.toStore.toSample_issued p)

theorem advanceOnce_of_nothingToIssue {c : Composer} (p : Params) (h : c.NothingToIssue) :
    c.advanceOnce p = c.toStore.toSample p :=
  issue_of_rest _ (h.of_sameIssued (c.moves_sameIssued p))

theorem NothingToIssue.advanceOnce {c : Composer} (h : c.NothingToIssue) (p : Params) :
    (c.advanceOnce p).NothingToIssue := by
  rw [advanceOnce_of_nothingToIssue p h]
  exact h.of_sameIssued (c.moves_sameIssued p)

/-- No move is left. -/
structure AtRest (c : Composer) (p : Params) : Prop where
  toStore : c.toStore = c
  toSample : c.toSample p = c
  issue : c.issue = c

theorem AtRest.advanceOnce {c : Composer} {p : Params} (h : c.AtRest p) : c.advanceOnce p = c := by
  rw [Composer.advanceOnce, h.toStore, h.toSample, h.issue]

/-- The three rounds of an advance end where the first one has brought the pipeline to rest. -/
theorem advance_of_one {c d : Composer} {p : Params} (hone : c.advanceOnce p = d) (hrest : d.AtRest p) :
    c.advance p = d := by
  rw [advance, hone, hrest.advanceOnce, hrest.advanceOnce]

/-- With nothing to issue, two rounds bring the pipeline to rest. -/
theorem two_rounds_atRest {c : Composer} (p : Params) (h : c.NothingToIssue) :
    ((c.advanceOnce p).advanceOnce p).AtRest p := by
  have hone := h.advanceOnce p
  have hrounds : (c.advanceOnce p).advanceOnce p = (c.toStore.toSample p).toStore.toSample p := by
    rw [advanceOnce_of_nothingToIssue p hone, advanceOnce_of_nothingToIssue p h]
  obtain ⟨hstore, hsample⟩ := two_rounds_rest c p
  exact ⟨hrounds ▸ hstore, hrounds ▸ hsample, issue_of_rest _ (hone.advanceOnce p)⟩

/-- A move to SAMPLE leaves FETCH free. -/
theorem toSample_of_fetch {c : Composer} {p : Params} (h : (c.toSample p).fetch ≠ none) : c.toSample p = c := by
  unfold toSample at h ⊢
  split at h
  · exact absurd rfl h
  · rfl

theorem toStore_toStore (c : Composer) : c.toStore.toStore = c.toStore := by
  obtain ⟨x, y, hstore, hrest⟩ := c.toStore_whole
  rw [hstore]
  exact toStore_of_rest _ hrest

/-- After the three rounds of an advance no move is left (R94). -/
theorem advance_atRest (c : Composer) (p : Params) : (c.advance p).AtRest p := by
  rcases hfetch : (c.toStore.toSample p).fetch with _ | f
  · have hissued : (c.advanceOnce p).NothingToIssue := by
      rcases hdecided : (c.toStore.toSample p).decided with _ | t
      · exact NothingToIssue.advanceOnce (.inl ((c.moves_sameIssued p).decided.symm.trans hdecided)) p
      · by_cases hstate : (c.toStore.toSample p).state = .issuing
        · rw [Composer.advanceOnce, issue_decided _ t hstate hdecided hfetch]
          exact .inl rfl
        · exact NothingToIssue.advanceOnce (.inr fun e => hstate ((c.moves_sameIssued p).state.trans e)) p
    exact two_rounds_atRest p hissued
  · have hbusy : (c.toStore.toSample p).fetch ≠ none := by simp [hfetch]
    have hsample := toSample_of_fetch hbusy
    rw [hsample] at hbusy
    have hrest : c.toStore.AtRest p := ⟨c.toStore_toStore, hsample, issue_of_busy hbusy⟩
    have hone : c.advanceOnce p = c.toStore := by rw [Composer.advanceOnce, hsample, issue_of_busy hbusy]
    rw [advance_of_one hone hrest]
    exact hrest

end Composer
end Sys2Proof.Machine
end

section
/-! The tile decision and its issue into the pipeline (R88, R90, R91, R94, R95; O40). -/

namespace Sys2Proof.Machine

/-! ### A tile's treatment (R90, R91) -/

namespace Composer

theorem mem_views_iff (c : Composer) (r : TileRecord) (v : View) :
    v ∈ c.views r ↔ v.cam ∈ r.needs ∧ c.selection[v.cam] = .available v.answer := by
  unfold views
  rw [List.mem_filterMap]
  constructor
  · rintro ⟨i, hi, heq⟩
    split at heq
    · obtain rfl := Option.some.inj heq
      exact ⟨hi, ‹_›⟩
    · exact absurd heq (by simp)
  · rintro ⟨hneeds, hsel⟩
    exact ⟨v.cam, hneeds, by simp only [hsel]⟩

theorem views_ne_nil_iff (c : Composer) (r : TileRecord) :
    c.views r ≠ [] ↔ ∃ i ∈ r.needs, ∃ x, c.selection[i] = .available x := by
  constructor
  · intro hviews
    obtain ⟨v, hv⟩ := List.exists_mem_of_ne_nil _ hviews
    obtain ⟨hneeds, hsel⟩ := (c.mem_views_iff r v).mp hv
    exact ⟨v.cam, hneeds, v.answer, hsel⟩
  · rintro ⟨i, hneeds, x, hsel⟩
    exact List.ne_nil_of_mem ((c.mem_views_iff r ⟨i, x⟩).mpr ⟨hneeds, hsel⟩)

theorem isFresh_iff (c : Composer) (r : TileRecord) :
    c.isFresh r = true ↔ r.needs = [] ∨ ∃ i ∈ r.needs, ∃ x, c.selection[i] = .available x := by
  rw [← views_ne_nil_iff]
  have hneeds (p q z : Fin 4) : (TileRecord.blend p q z).needs ≠ [] := by
    simp only [TileRecord.needs]
    split <;> simp
  cases r with
  | void => simp [isFresh, TileRecord.needs]
  | body => simp [isFresh, TileRecord.needs]
  | single p => simp [isFresh, TileRecord.needs]
  | blend p q z => simp [isFresh, hneeds]

theorem treat_of_fresh {c : Composer} {r : TileRecord} (age limit : Nat) (h : c.isFresh r = true) :
    c.treat r age limit = .fresh := if_pos h

theorem treat_of_held {c : Composer} {r : TileRecord} {age limit : Nat} {k : Fin 3} (h : c.isFresh r = false)
    (hhold : c.hold = some k) (hage : age ≤ limit) : c.treat r age limit = .held k := by
  simp only [treat, h, hhold, Bool.false_eq_true, if_false, if_pos hage]

theorem treat_of_filled {c : Composer} {r : TileRecord} {age limit : Nat} (h : c.isFresh r = false)
    (hfill : c.hold = none ∨ limit < age) : c.treat r age limit = .filled := by
  simp only [treat, h, Bool.false_eq_true, if_false]
  rcases hhold : c.hold with _ | k
  · rfl
  · rcases hfill with hnone | hage
    · simp [hhold] at hnone
    · exact if_neg (by omega)

theorem newAge_of_fresh {c : Composer} {r : TileRecord} (n : Nat) (h : c.isFresh r = true) : c.newAge r n = 0 := if_pos h

theorem newAge_of_not_fresh {c : Composer} {r : TileRecord} (m : Fin 384) (h : c.isFresh r = false) :
    c.newAge r m = min 255 (c.holdTable[m] + 1) := by
  simp [newAge, h, List.getD_eq_getElem?_getD]

/-- The tile that a decision makes of a record (R90, R91, R95). -/
def tileOf (c : Composer) (r : TileRecord) (p : Params) (slot : Fin 3) (pair : BankPair) : Tile :=
  let treatment := c.treat r (c.newAge r c.index) p.holdLimit
  ⟨c.index, r, treatment, slot, pair, if treatment = .fresh then c.views r else []⟩

theorem decideTile_of_awaits {c : Composer} {r : TileRecord} (p : Params) (slot : Fin 3) (pair : BankPair)
    (h : ∃ i ∈ r.needs, c.selection[i] = .pending) : c.decideTile r p slot pair = { c with state := .waiting } :=
  if_pos (List.any_eq_true.mpr (by simpa using h))

theorem decideTile_of_decided {c : Composer} {r : TileRecord} (p : Params) (slot : Fin 3) (pair : BankPair)
    (h : ∀ i ∈ r.needs, c.selection[i] ≠ .pending) : c.decideTile r p slot pair = Composer.advance { c with
      decided := some (c.tileOf r p slot pair)
      holdTable := c.holdTable.setIfInBounds c.index (c.newAge r c.index) } p :=
  if_neg (by rw [(c.awaits_eq_false_iff r).mpr h]; exact Bool.false_ne_true)

end Composer

theorem exec_tileDecision {s : State} {bs : List Byte} {r : TileRecord} {k : Fin 3} {pair : BankPair} (ht : s.Takes)
    (hstate : s.comp.state = .issuing) (hdecided : s.comp.decided = none) (hindex : s.comp.index < 384)
    (hbytes : s.comp.recordBytes s.comp.index = some bs) (hrecord : tileRecordOf bs = some r)
    (hslot : s.comp.slot = some k) (hpair : s.active.pair = some pair) :
    exec .tileDecision s = .next (arbitrate (s.setComp (s.comp.decideTile r s.active k pair))) := by
  have hexec : exec .tileDecision s = tileDecision s := if_neg (by rw [ht]; exact Bool.false_ne_true)
  rw [hexec, tileDecision, if_pos ⟨hstate, hdecided, hindex⟩]
  simp only [hbytes, hslot, hpair, hrecord]

/-! ### The reads of a tile (R95) -/

theorem Run.cut_ne_nil {r : Run} (h : 0 < r.len) : r.cut ≠ [] := by
  simp only [Run.cut, ne_eq, List.map_eq_nil_iff, List.range_eq_nil]
  omega

theorem flatMap_cut_ne_nil {l : List Run} (hl : l ≠ []) (h : ∀ r ∈ l, 0 < r.len) : l.flatMap Run.cut ≠ [] := by
  obtain ⟨r, hr⟩ := List.exists_mem_of_ne_nil l hl
  intro hnil
  exact Run.cut_ne_nil (h r hr) (List.flatMap_eq_nil_iff.mp hnil r hr)

theorem pointRows_len {b : Fin 8} {sec size t : Nat} (h : 0 < size) : ∀ r ∈ pointRows b sec size t, 0 < r.len := by
  intro r hr
  obtain ⟨j, _, rfl⟩ := List.mem_map.mp hr
  exact Nat.mul_pos (by decide) h

theorem meshRuns_len {p : BankPair} {c : Fin 4} {t : Nat} : ∀ r ∈ meshRuns p c t, 0 < r.len := by
  intro r hr
  obtain ⟨b, _, hb⟩ := List.mem_flatMap.mp hr
  exact pointRows_len (by decide) r hb

theorem viewMeshes_len (t : Tile) : ∀ r ∈ t.views.flatMap fun v => meshRuns t.pair v.cam t.index, 0 < r.len := by
  intro r hr
  obtain ⟨v, _, hv⟩ := List.mem_flatMap.mp hr
  exact meshRuns_len r hv

/-- Every run that FETCH reads has bytes. -/
theorem Tile.fetchRuns_len (t : Tile) : ∀ r ∈ t.fetchRuns, 0 < r.len := by
  intro r hr
  unfold fetchRuns at hr
  split at hr
  case h_1 k => rw [List.mem_singleton.mp hr]; exact Nat.succ_pos _
  case h_2 => exact absurd hr List.not_mem_nil
  case h_3 =>
    split at hr
    · exact absurd hr List.not_mem_nil
    · rw [List.mem_singleton.mp hr]; exact Nat.succ_pos _
    · exact viewMeshes_len t r hr
    · rcases List.mem_append.mp hr with hr | hr
      · exact viewMeshes_len t r hr
      · obtain ⟨b, _, hb⟩ := List.mem_flatMap.mp hr
        exact pointRows_len (by decide) r hb

theorem BankPair.banks_ne_nil (p : BankPair) : p.banks ≠ [] := by
  unfold banks
  split <;> simp

theorem pointRows_ne_nil (b : Fin 8) (sec size t : Nat) : pointRows b sec size t ≠ [] := by
  simp [pointRows]

theorem flatMap_banks_ne_nil (p : BankPair) (sec size t : Nat) :
    (p.banks.flatMap fun b => pointRows b sec size t) ≠ [] := by
  obtain ⟨b, hb⟩ := List.exists_mem_of_ne_nil _ p.banks_ne_nil
  exact fun hnil => pointRows_ne_nil b sec size t (List.flatMap_eq_nil_iff.mp hnil b hb)

/-- A FRESH tile that needs cameras and has a view of one has reads. -/
theorem Tile.fromCameras_of_no_reads {t : Tile} (hviews : t.fromCameras = true → t.views ≠ [])
    (h : t.fetchRuns = []) : t.fromCameras = false := by
  by_contra hcams
  rw [Bool.not_eq_false] at hcams
  obtain ⟨v, hv⟩ := List.exists_mem_of_ne_nil _ (hviews hcams)
  have hmeshes : (t.views.flatMap fun v => meshRuns t.pair v.cam t.index) ≠ [] := fun hnil =>
    flatMap_banks_ne_nil t.pair v.cam.val 4 t.index (List.flatMap_eq_nil_iff.mp hnil v hv)
  unfold fromCameras at hcams
  unfold fetchRuns at h
  split at hcams <;> simp_all

theorem solidTile_eq (p : Pixel) : solidTile p = (List.replicate 1024 [p.y, p.cb, p.cr]).flatten := by
  rw [solidTile, List.flatMap, List.map_replicate]
  rfl

/-- A tile without reads has the fill or the void colour in every pixel (R18, R19). -/
theorem Tile.copied_of_no_reads {t : Tile} (active : Params) (hcams : t.fromCameras = false) (h : t.fetchRuns = []) :
    t.copied active [] = solidTile (if t.treatment = .filled then active.fill else active.void) := by
  unfold fromCameras at hcams
  unfold fetchRuns at h
  unfold copied
  rcases htr : t.treatment with _ | k | _ <;> rcases hrec : t.record with _ | _ | _ | _ <;> simp_all

/-! ### The decided tile enters the pipeline (R94) -/

namespace Composer

/-- The composer when tile `t` has been issued, but for what stands in FETCH (R88, R94, R130). -/
def issued (a : Composer) (t : Tile) (ages : Vector Nat 384) : Composer :=
  { a with
    decided := none, index := a.index + 1, holdTable := ages
    mapRuns := a.mapRuns.filter fun m => decide (a.index + 1 ≤ 64 * m.run + 63)
    state := if a.index + 1 = 384 then .draining else .issuing
    fresh := a.fresh + if t.treatment = .fresh then 1 else 0
    filled := a.filled + if t.treatment = .filled then 1 else 0
    held := a.held + if t.treatment = .fresh ∨ t.treatment = .filled then 0 else 1 }

/-- The composer with tile `t` decided. -/
def deciding (a : Composer) (t : Tile) (ages : Vector Nat 384) : Composer :=
  { a with decided := some t, holdTable := ages }

/-- The composer when tile `t` has been issued into FETCH. -/
def inFetch (a : Composer) (t : Tile) (ages : Vector Nat 384) : Composer :=
  { a.issued t ages with fetch := some ⟨t, t.fetchRuns.flatMap Run.cut, []⟩ }

/-- The composer when the bytes `px` of tile `t`, which has no reads, stand in SAMPLE. -/
def inSample (a : Composer) (t : Tile) (ages : Vector Nat 384) (px : List Byte) : Composer :=
  { a.issued t ages with sample := some ⟨t, [], [], [], some px⟩ }

/-- The composer when they stand in STORE. -/
def inStore (a : Composer) (t : Tile) (ages : Vector Nat 384) (px : List Byte) : Composer :=
  { a.issued t ages with store := some ⟨t, px, 0⟩ }

section
variable {c a : Composer} {p : Params} {t : Tile} {ages : Vector Nat 384}

theorem deciding_toStore : (c.deciding t ages).toStore = c.toStore.deciding t ages := by
  simp only [deciding, toStore]
  split <;> rfl

/-- The first round takes the tile ahead to STORE and issues the decided tile into a free FETCH. -/
theorem deciding_advanceOnce (hahead : c.toStore = a) (hstate : a.state = .issuing) (hfetch : a.fetch = none) :
    (c.deciding t ages).advanceOnce p = a.inFetch t ages := by
  have hsample : (a.deciding t ages).toSample p = a.deciding t ages := toSample_of_rest _ p (.inl hfetch)
  rw [advanceOnce, deciding_toStore, hahead, hsample]
  exact issue_decided _ t hstate rfl hfetch

/-- A tile with reads stays in FETCH, and one without while SAMPLE is occupied. -/
theorem advance_stays_in_fetch (hahead : c.toStore = a) (hstate : a.state = .issuing) (hfetch : a.fetch = none)
    (hrest : StoreRest a.sample a.store) (hbusy : t.fetchRuns ≠ [] ∨ a.sample ≠ none) :
    (c.deciding t ages).advance p = a.inFetch t ages := by
  have hsample : (a.inFetch t ages).toSample p = a.inFetch t ages := by
    refine toSample_of_rest _ p (.inr ?_)
    rcases hbusy with hreads | hsample
    · obtain ⟨r, td, htodo⟩ := List.exists_cons_of_ne_nil (flatMap_cut_ne_nil hreads t.fetchRuns_len)
      exact .inr ⟨t, r, td, [], by rw [inFetch, htodo]⟩
    · exact .inl hsample
  exact advance_of_one (deciding_advanceOnce hahead hstate hfetch)
    ⟨toStore_of_rest _ hrest, hsample, issue_of_rest _ (.inl rfl)⟩

/-- A tile without reads goes on to a free SAMPLE in the second round. -/
theorem inFetch_advanceOnce (hfetch : a.fetch = none) (hreads : t.fetchRuns = []) (hcams : t.fromCameras = false)
    (hsample : a.sample = none) : (a.inFetch t ages).advanceOnce p = a.inSample t ages (t.copied p []) := by
  have hstore : (a.inFetch t ages).toStore = a.inFetch t ages := toStore_of_rest _ (.inl hsample)
  have hdone : (a.inFetch t ages).fetch = some ⟨t, [], []⟩ := by rw [inFetch, hreads, List.flatMap_nil]
  rw [advanceOnce_of_nothingToIssue p (.inl rfl), hstore, toSample_of_done p hdone hsample]
  simp [Tile.sampleRuns, hcams, inSample, inFetch, issued, hfetch]

/-- It stays there while STORE is occupied. -/
theorem advance_stays_in_sample (hahead : c.toStore = a) (hstate : a.state = .issuing) (hfetch : a.fetch = none)
    (hreads : t.fetchRuns = []) (hcams : t.fromCameras = false) (hsample : a.sample = none) (hstore : a.store ≠ none) :
    (c.deciding t ages).advance p = a.inSample t ages (t.copied p []) := by
  have hatRest : (a.inSample t ages (t.copied p [])).AtRest p :=
    ⟨toStore_of_rest _ (.inr (.inl hstore)), toSample_of_rest _ p (.inl hfetch), issue_of_rest _ (.inl rfl)⟩
  rw [advance, deciding_advanceOnce hahead hstate hfetch, inFetch_advanceOnce hfetch hreads hcams hsample,
    hatRest.advanceOnce]

/-- It goes on to a free STORE in the third round. -/
theorem advance_goes_to_store (hahead : c.toStore = a) (hstate : a.state = .issuing) (hfetch : a.fetch = none)
    (hreads : t.fetchRuns = []) (hcams : t.fromCameras = false) (hsample : a.sample = none) (hstore : a.store = none) :
    (c.deciding t ages).advance p = a.inStore t ages (t.copied p []) := by
  have hthird : (a.inSample t ages (t.copied p [])).toStore = a.inStore t ages (t.copied p []) := by
    rw [toStore_of_known (c := a.inSample t ages (t.copied p [])) rfl hstore]
    simp [inSample, inStore, issued, hsample]
  have hrest : (a.inStore t ages (t.copied p [])).toSample p = a.inStore t ages (t.copied p []) :=
    toSample_of_rest _ p (.inl hfetch)
  rw [advance, deciding_advanceOnce hahead hstate hfetch, inFetch_advanceOnce hfetch hreads hcams hsample,
    advanceOnce_of_nothingToIssue p (.inl rfl), hthird, hrest]

/-- While FETCH is not free the tile is held decided. -/
theorem advance_holds (hahead : c.toStore = a) (hrest : StoreRest a.sample a.store) {t' : Tile} {todo : List Run}
    {got : List Byte} (hfetch : a.fetch = some ⟨t', todo, got⟩) (hbusy : todo ≠ [] ∨ a.sample ≠ none) :
    (c.deciding t ages).advance p = a.deciding t ages := by
  have hsample : (a.deciding t ages).toSample p = a.deciding t ages := by
    refine toSample_of_rest _ p (.inr ?_)
    rcases hbusy with htodo | hsample
    · obtain ⟨r, td, rfl⟩ := List.exists_cons_of_ne_nil htodo
      exact .inr ⟨t', r, td, got, hfetch⟩
    · exact .inl hsample
  have hissue : (a.deciding t ages).issue = a.deciding t ages := issue_of_busy (by simp [deciding, hfetch])
  refine advance_of_one ?_ ⟨toStore_of_rest _ hrest, hsample, hissue⟩
  rw [advanceOnce, deciding_toStore, hahead, hsample, hissue]

end
end Composer

end Sys2Proof.Machine
end

section
/-! The tile decision and the moves of the pipeline as the manual words them (O40). -/

namespace Sys2Proof.Machine

/-! ### The reads of a tile, address by address (R95) -/

/-- A row of control points of tile `n`, in the section at `base` of bank `b` (R2). -/
def tileRows (n : Nat) (b : Fin 8) (base size : Nat) : List Run :=
  (List.range 5).map fun j => ⟨bankAddr b + base + size * ((4 * (n / 16) + j) * 65 + 4 * (n % 16)), 5 * size⟩

theorem pointRows_eq (b : Fin 8) {sec : Nat} (size n : Nat) (h : sec ≤ 4) :
    pointRows b sec size n = tileRows n b (25220 * sec) size := by
  have hoffset : sectionOffset sec = 25220 * sec := by rw [sectionOffset, if_pos h, Nat.mul_comm]
  rw [pointRows, hoffset]
  rfl

/-- The runs that FETCH reads, by treatment and record. -/
theorem Tile.fetchRuns_eq (t : Tile) : t.fetchRuns =
    let meshes := t.views.flatMap fun v => t.pair.banks.flatMap fun b => tileRows t.index b (25220 * v.cam.val) 4
    match t.treatment, t.record with
    | .held h, _ => [⟨outAddr h + 3072 * t.index, 3072⟩]
    | .filled, _ => []
    | .fresh, .void => []
    | .fresh, .body => [⟨bodyBase + 3072 * t.index, 3072⟩]
    | .fresh, .single _ => meshes
    | .fresh, .blend _ _ _ => meshes ++ t.pair.banks.flatMap fun b => tileRows t.index b 100880 1 := by
  have hmesh (v : View) (b : Fin 8) : pointRows b v.cam.val 4 t.index = tileRows t.index b (25220 * v.cam.val) 4 :=
    pointRows_eq b 4 t.index (by omega)
  have hweight (b : Fin 8) : pointRows b 4 1 t.index = tileRows t.index b 100880 1 := pointRows_eq b 1 t.index le_rfl
  unfold fetchRuns meshRuns
  simp only [hmesh, hweight]
  cases t.treatment <;> cases t.record <;> rfl

/-! ### The bytes of a tile that leaves FETCH (R15 to R19) -/

/-- The bytes of a tile that has no SAMPLE work, by treatment and record. -/
theorem Tile.copied_eq (t : Tile) (p : Params) (got : List Byte) :
    (if t.fromCameras then none else some (t.copied p got)) =
      match t.treatment, t.record with
      | .held _, _ => some got
      | .filled, _ => some ((List.replicate 1024 [p.fill.y, p.fill.cb, p.fill.cr]).flatten)
      | .fresh, .void => some ((List.replicate 1024 [p.void.y, p.void.cb, p.void.cr]).flatten)
      | .fresh, .body => some got
      | .fresh, .single _ => none
      | .fresh, .blend _ _ _ => none := by
  rw [← solidTile_eq, ← solidTile_eq]
  unfold fromCameras copied
  cases t.treatment <;> cases t.record <;> rfl

/-- The move to SAMPLE with the tile's bytes written out. -/
theorem Composer.toSample_eq (c : Composer) (p : Params) : c.toSample p = match c.fetch, c.sample with
    | some ⟨t, [], got⟩, none => { c with
      fetch := none
      sample := some ⟨t, got, (t.sampleRuns got).flatMap Run.cut, [], match t.treatment, t.record with
        | .held _, _ => some got
        | .filled, _ => some ((List.replicate 1024 [p.fill.y, p.fill.cb, p.fill.cr]).flatten)
        | .fresh, .void => some ((List.replicate 1024 [p.void.y, p.void.cb, p.void.cr]).flatten)
        | .fresh, .body => some got
        | .fresh, .single _ => none
        | .fresh, .blend _ _ _ => none⟩ }
    | _, _ => c := by
  unfold toSample
  rcases c.fetch with _ | ⟨t, _ | ⟨r, td⟩, got⟩
  · rfl
  · rcases c.sample with _ | x
    · exact congrArg (fun px => ({ c with
        fetch := none
        sample := some ⟨t, got, (t.sampleRuns got).flatMap Run.cut, [], px⟩ } : Composer)) (t.copied_eq p got)
    · rfl
  · rfl

/-- The issue with its counts written as sums. -/
theorem Composer.issue_eq (c : Composer) : c.issue = match c.state, c.decided, c.fetch with
    | .issuing, some t, none => { c with
      decided := none, index := c.index + 1, fetch := some ⟨t, t.fetchRuns.flatMap Run.cut, []⟩
      mapRuns := c.mapRuns.filter fun m => decide (c.index + 1 ≤ 64 * m.run + 63)
      state := if c.index + 1 = 384 then .draining else .issuing
      fresh := c.fresh + if t.treatment = .fresh then 1 else 0
      filled := c.filled + if t.treatment = .filled then 1 else 0
      held := c.held + if t.treatment = .fresh ∨ t.treatment = .filled then 0 else 1 }
    | _, _, _ => c := by
  split
  · exact issue_decided c _ ‹_› ‹_› ‹_›
  · next hno =>
    unfold issue
    split
    · exact (hno _ ‹_› ‹_› ‹_›).elim
    · rfl

/-- A decided tile that is computed from cameras has a view. -/
theorem tileOf_views (c : Composer) (r : TileRecord) (p : Params) (k : Fin 3) (pair : BankPair) :
    (c.tileOf r p k pair).fromCameras = true → (c.tileOf r p k pair).views ≠ [] := by
  by_cases hfresh : c.isFresh r = true
  · have htreat : (c.tileOf r p k pair).treatment = .fresh := Composer.treat_of_fresh _ _ hfresh
    have hviews : (c.tileOf r p k pair).views = c.views r := if_pos htreat
    rw [hviews]
    unfold Tile.fromCameras
    rw [htreat]
    cases r <;> simp_all [Composer.tileOf, Composer.isFresh]
  · have htreat : (c.tileOf r p k pair).treatment ≠ .fresh := by
      simp only [Composer.tileOf, Composer.treat, if_neg hfresh]
      split
      · split <;> simp
      · simp
    unfold Tile.fromCameras
    split
    · exact absurd ‹_› htreat
    · exact absurd ‹_› htreat
    · exact fun h => absurd h Bool.false_ne_true

/-- Settles O40: the decision follows the selections, and the moves are followed round by round to rest. -/
theorem tileDecisionWaitsOrDecidesOnce : Obligations.TileDecisionWaitsOrDecidesOnce := by
  unfold Obligations.TileDecisionWaitsOrDecidesOnce
  constructor
  · intro bs r k pair s ht hstate hdecided hindex hbytes hrecord hslot hpair
    rw [exec_tileDecision ht hstate hdecided hindex hbytes hrecord hslot hpair]
    constructor
    · intro hpending
      rw [Composer.decideTile_of_awaits s.active k pair hpending]
    · intro hsettled n seen views
      let tile := s.comp.tileOf r s.active k pair
      let ages := s.comp.holdTable.setIfInBounds n (s.comp.newAge r n)
      refine ⟨tile.treatment, s.comp.newAge r n, (s.comp.deciding tile ages).advance s.active, ?_⟩
      intro _ _ ahead issued banks rows meshes reads colour solid
      have hdecide : s.comp.decideTile r s.active k pair = (s.comp.deciding tile ages).advance s.active :=
        Composer.decideTile_of_decided s.active k pair hsettled
      have hfresh : s.comp.isFresh r = true ↔ seen := s.comp.isFresh_iff r
      have hreads : reads = tile.fetchRuns := tile.fetchRuns_eq.symm
      obtain ⟨x, y, hahead, hrest⟩ := s.comp.toStore_whole
      have hmoved : ahead = { s.comp with sample := x, store := y } := hahead
      clear_value ahead
      subst hmoved
      refine ⟨by rw [hdecide], ?_, ?_, rfl, ?_, ?_⟩
      · intro hseen
        exact ⟨Composer.treat_of_fresh _ _ (hfresh.mpr hseen), Composer.newAge_of_fresh _ (hfresh.mpr hseen)⟩
      · intro hunseen
        have hstale : s.comp.isFresh r = false := Bool.eq_false_iff.mpr fun h => hunseen (hfresh.mp h)
        refine ⟨?_, fun h => Composer.treat_of_held hstale, Composer.treat_of_filled hstale⟩
        rintro m hm
        rw [← Composer.newAge_of_not_fresh m hstale, hm]
      · intro hfetch
        rw [hreads]
        have hbare (h : tile.fetchRuns = []) : tile.fromCameras = false :=
          tile.fromCameras_of_no_reads (tileOf_views s.comp r s.active k pair) h
        have hsolid (h : tile.fetchRuns = []) : tile.copied s.active [] = solid := by
          rw [tile.copied_of_no_reads s.active (hbare h) h, solidTile_eq]
        refine ⟨fun h => ?_, fun h hsample => ?_, fun h hsample hstore => ?_, fun h hsample hstore => ?_⟩
        · exact Composer.advance_stays_in_fetch hahead hstate hfetch hrest (.inl h)
        · rw [Composer.advance_stays_in_fetch hahead hstate hfetch hrest (.inr hsample), Composer.inFetch, h]
          rfl
        · rw [Composer.advance_stays_in_sample hahead hstate hfetch h (hbare h) hsample hstore, hsolid h]
          rfl
        · rw [Composer.advance_goes_to_store hahead hstate hfetch h (hbare h) hsample hstore, hsolid h]
          rfl
      · intro t todo got hfetch hbusy
        exact Composer.advance_holds hahead hrest hfetch hbusy
  · intro c p toStore solid toSample issue once d
    have hstore : toStore = Composer.toStore := rfl
    have hsample : toSample = fun c => c.toSample p := funext fun c => (Composer.toSample_eq c p).symm
    have hissue : issue = Composer.issue := funext fun c => c.issue_eq.symm
    have hrest := c.advance_atRest p
    simp only [once, hstore, hsample, hissue]
    exact ⟨rfl, hrest.toStore, hrest.toSample, hrest.issue⟩

end Sys2Proof.Machine
end

section
/-! The end of a tile's sample arithmetic: its pixels and the balance unit's triples (R15 to R17, R20, R94, R95; O41). -/

namespace Sys2Proof.Machine

theorem length_map_localPixels {α : Type} (f : Nat × Nat → α) : (localPixels.map f).length = 1024 := by
  rw [List.length_map, localPixels, List.length_map, List.length_range]

/-- Pixel n of a tile stands at column n mod 32 of row n div 32 (R115). -/
theorem getElem?_map_localPixels {α : Type} (f : Nat × Nat → α) {n : Nat} (h : n < 1024) :
    (localPixels.map f)[n]? = some (f (n % 32, n / 32)) := by
  simp [localPixels, h]

theorem Tile.compute_of_single {t : Tile} {p : Fin 4} (active : Params) (fetched got : List Byte)
    (h : t.record = .single p) : t.compute active fetched got = localPixels.map fun xy =>
      singlePixel active.void (cameraPixel (t.viewData fetched t.views.zipIdx got) active.gains p xy.1 xy.2) := by
  simp only [compute, h]

theorem Tile.compute_of_blend {t : Tile} {p q z : Fin 4} (active : Params) (fetched got : List Byte)
    (h : t.record = .blend p q z) : t.compute active fetched got = localPixels.map fun xy =>
      let ds := t.viewData fetched t.views.zipIdx got
      blendOutcome active.void (pixelWeight (t.weights fetched) xy.1 xy.2) (cameraPixel ds active.gains p xy.1 xy.2)
        (cameraPixel ds active.gains q xy.1 xy.2) := by
  simp only [compute, h]

/-- The zone of a BLEND tile counts each of its triples, and the other zones stay (R20, R108). -/
theorem addTileTriples_of_blend {t : Tile} {p q z : Fin 4} (px : List PixelOutcome) (zs : Vector Zone 4)
    (h : t.record = .blend p q z) :
    addTileTriples t px zs = addTriples z p (px.filterMap PixelOutcome.lumas) zs := by
  simp only [addTileTriples, h]

theorem addTileTriples_of_other {t : Tile} (px : List PixelOutcome) (zs : Vector Zone 4)
    (h : ∀ p q z, t.record ≠ .blend p q z) : addTileTriples t px zs = zs := by
  unfold addTileTriples
  split
  · exact absurd ‹_› (h _ _ _)
  · rfl

theorem addTriples_get (z p y : Fin 4) (ts : List (Nat × Nat)) (zs : Vector Zone 4) :
    (addTriples z p ts zs)[y] = if y = z then ts.foldl (fun r t => Zone.add z p t.1 t.2 r) zs[z] else zs[y] :=
  get_set_fin zs z y _

/-- Each triple adds one to its zone's count, whichever camera is the primary. -/
theorem addTriples_count (z p : Fin 4) (ts : List (Nat × Nat)) (zs : Vector Zone 4) :
    (addTriples z p ts zs)[z].count = zs[z].count + ts.length := by
  rw [addTriples_get, if_pos rfl]
  by_cases hp : p = z
  · rw [hp, foldl_zoneAdd_first]
  · rw [foldl_zoneAdd_second z p hp]

theorem exec_sampleArithmeticDone {s : State} {t : Tile} {fetched got : List Byte} (ht : s.Takes)
    (hsample : s.comp.sample = some ⟨t, fetched, [], got, none⟩) :
    exec .sampleArithmeticDone s =
      let px := t.compute s.active fetched got
      .next (arbitrate ((s.setComp (Composer.advance { s.comp with
        sample := some ⟨t, fetched, [], got, some (px.flatMap fun o => o.pixel.bytes)⟩ } s.active)).setZones
          (addTileTriples t px s.zones))) := by
  refine congrArg Host.Outcome.next ((unlessAsserted_of_takes _ ht).trans ?_)
  simp only [sampleArithmeticDone, hsample]

/-- Settles O41: the pixels by the tile's record, the pipeline's next moves, and the zone's sums as folds. -/
theorem sampleDoneStoresPixelsAndCountsTriples : Obligations.SampleDoneStoresPixelsAndCountsTriples := by
  unfold Obligations.SampleDoneStoresPixelsAndCountsTriples
  intro t fetched got s ht hsample px bytes lumas view
  let known : Composer := { s.comp with sample := some ⟨t, fetched, [], got, some bytes⟩ }
  refine ⟨_, addTileTriples t px s.zones, exec_sampleArithmeticDone ht hsample, rfl, ?_, ?_, ?_, ?_, ?_, ?_⟩
  · exact fun hstore => Composer.advance_stores known s.active hstore t fetched [] got bytes rfl
  · exact fun st hstore => Composer.advance_waits known s.active st hstore t fetched [] got bytes rfl
  · intro p hrecord
    have hpx : px = _ := Tile.compute_of_single s.active fetched got hrecord
    refine ⟨by rw [hpx, length_map_localPixels], fun n hn => ?_⟩
    rw [hpx, getElem?_map_localPixels _ hn]
    rfl
  · intro p q z hrecord
    have hpx : px = _ := Tile.compute_of_blend s.active fetched got hrecord
    refine ⟨by rw [hpx, length_map_localPixels], fun n hn => ?_⟩
    rw [hpx, getElem?_map_localPixels _ hn]
    change some (blendOutcome _ _ (view p n) (view q n)) = _
    rcases view p n with _ | a <;> rcases view q n with _ | b <;> rfl
  · exact addTileTriples_of_other px s.zones
  · intro p q z hrecord
    have hzones : addTileTriples t px s.zones = addTriples z p lumas s.zones :=
      addTileTriples_of_blend px s.zones hrecord
    rw [hzones]
    refine ⟨fun y hy => ?_, addTriples_count z p lumas s.zones, fun hp => ?_, fun hp => ?_⟩
    · rw [addTriples_get, if_neg hy]
    · rw [hp, addTriples_get, if_pos rfl, foldl_zoneAdd_first]
      exact ⟨rfl, rfl⟩
    · rw [addTriples_get, if_pos rfl, foldl_zoneAdd_second z p hp]
      exact ⟨rfl, rfl⟩

end Sys2Proof.Machine
end

section
/-! A completed burst: its bytes in DRAM, and what it is credited to (R56, R95, R120, R129, R130; O42). -/

namespace Sys2Proof.Machine

/-! ### The bytes of a completed burst (R129) -/

/-- Whoever a burst is credited to, the DRAM stays. -/
theorem creditBurst_mem (b : Burst) (read : List Byte) (s : State) : (creditBurst b read s).mem = s.mem := by
  unfold creditBurst
  cases b.client <;> simp

theorem burstComplete_mem {b : Burst} {s : State} (h : s.arb.port = some b) :
    (burstComplete s).mem = (landBurst b s).mem := by
  simp only [burstComplete, h]
  split
  · rfl
  · rw [arbitrate_mem, resumeFill_mem]
    split
    · exact creditBurst_mem b _ _
    · rfl

theorem landBurst_mem_of_read {b : Burst} (s : State) (h : b.data = none) : (landBurst b s).mem = s.mem := by
  simp only [landBurst, h]
  rfl

theorem landBurst_mem_of_write {b : Burst} (s : State) {bytes : List Byte} (h : b.data = some bytes) :
    (landBurst b s).mem = Memory.writeRun s.mem b.addr bytes := by
  simp only [landBurst, h]
  rfl

theorem Memory.read_writeRun_inside {m : List Host.Cell} (a : Nat) (bs : List Byte) (hm : Memory.wf m = true) {i : Nat}
    (hi : i < bs.length) : Memory.read (Memory.writeRun m a bs) (a + i) = byteAt bs i := by
  rw [← Memory.byteAt_readRun _ bs.length a i hi, Memory.readRun_writeRun bs m a hm]

theorem burstRead_of_read {b : Burst} (s : State) (h : b.data = none) :
    burstRead b s = Memory.readRun s.mem b.addr b.len := by
  simp only [burstRead, h]

/-! ### What a burst is credited to -/

/-- A pending line moves on by the burst, and leaves the FIFO after its last one (R56). -/
theorem Camera.burstDone_of_cons {c : Camera} {l : PendingLine} {rest : List PendingLine} (n : Nat)
    (h : c.fifo = l :: rest) : c.burstDone n = { c with
      fifo := if l.data.length ≤ l.written + n then rest else { l with written := l.written + n } :: rest } := by
  simp only [burstDone, h]
  split <;> rfl

/-- The next line's fetch may begin: from a slot, with a place free, a line left and none on its way (R120). -/
def Output.MayFetch (o : Output) : Prop :=
  o.source ≠ none ∧ o.places.length < 2 ∧ o.nextLine < 768 ∧ ∀ p ∈ o.places, p.dropped = true ∨ 1536 ≤ p.got.length

theorem LinePlace.fetching_eq_false_iff (p : LinePlace) :
    p.fetching = false ↔ p.dropped = true ∨ 1536 ≤ p.got.length := by
  rw [← Bool.not_eq_true, p.fetching_iff, Classical.not_and_iff_not_or_not, Bool.not_eq_false, not_lt]

theorem Output.mayFetch_iff (o : Output) : o.MayFetch ↔
    o.source.isSome ∧ o.places.length < 2 ∧ o.nextLine < 768 ∧ o.places.any LinePlace.fetching = false := by
  simp only [MayFetch, Option.isSome_iff_ne_none, List.any_eq_false, Bool.not_eq_true,
    LinePlace.fetching_eq_false_iff]

theorem Output.refill_of_mayFetch {o : Output} (h : o.MayFetch) :
    o.refill = { o with places := o.places ++ [⟨o.nextLine, [], false⟩], nextLine := o.nextLine + 1 } :=
  if_pos (o.mayFetch_iff.mp h)

theorem Output.refill_of_not_mayFetch {o : Output} (h : ¬ o.MayFetch) : o.refill = o :=
  if_neg (mt o.mayFetch_iff.mpr h)

theorem fetchBurstDone_of_fetch {s : State} {t : Tile} {r : Run} {todo : List Run} {got : List Byte}
    (read : List Byte) (h : s.comp.fetch = some ⟨t, r :: todo, got⟩) : fetchBurstDone read s =
      s.setComp (Composer.advance { s.comp with fetch := some ⟨t, todo, got ++ read⟩ } s.active) := by
  simp only [fetchBurstDone, h]

theorem sampleBurstDone_of_sample {s : State} {t : Tile} {f : List Byte} {r : Run} {todo : List Run} {got : List Byte}
    {px : Option (List Byte)} (read : List Byte) (h : s.comp.sample = some ⟨t, f, r :: todo, got, px⟩) :
    sampleBurstDone read s = s.setComp { s.comp with sample := some ⟨t, f, todo, got ++ read, px⟩ } := by
  simp only [sampleBurstDone, h]

theorem storeBurstDone_of_more {s : State} {st : StoreStage} {n : Nat} (h : s.comp.store = some st)
    (hmore : st.written + n < 3072) : storeBurstDone n s = settleEnd (s.setComp
      (Composer.advance { s.comp with store := some { st with written := st.written + n } } s.active)) := by
  simp only [storeBurstDone, h]
  rw [if_neg (by exact Nat.not_le.mpr hmore)]

/-! ### A composition that is still on its way (R94, R96) -/

namespace Composer

/-- A tile is in flight, or the composer has tiles left to issue. -/
def OnItsWay (c : Composer) : Prop :=
  c.fetch ≠ none ∨ c.sample ≠ none ∨ c.store ≠ none ∨ c.state = .issuing ∨ c.state = .waiting

theorem OnItsWay.toStore {c : Composer} (h : c.OnItsWay) : c.toStore.OnItsWay := by
  unfold Composer.toStore
  split
  · exact .inr (.inr (.inl (Option.some_ne_none _)))
  · exact h

theorem OnItsWay.toSample {c : Composer} (p : Params) (h : c.OnItsWay) : (c.toSample p).OnItsWay := by
  unfold Composer.toSample
  split
  · exact .inr (.inl (Option.some_ne_none _))
  · exact h

theorem OnItsWay.issue {c : Composer} (h : c.OnItsWay) : c.issue.OnItsWay := by
  unfold Composer.issue
  split
  · exact .inl (Option.some_ne_none _)
  · exact h

theorem OnItsWay.advance {c : Composer} (p : Params) (h : c.OnItsWay) : (c.advance p).OnItsWay :=
  advance_keeps OnItsWay p (fun _ => OnItsWay.toStore) (fun _ => OnItsWay.toSample p) (fun _ => OnItsWay.issue) c h

end Composer

/-- Nothing ends while a composition is on its way. -/
theorem settleEnd_of_onItsWay {s : State} (h : s.comp.OnItsWay) : settleEnd s = s := by
  unfold settleEnd
  split
  · next hempty =>
    simp only [Composer.empty, Bool.and_eq_true, Option.isNone_iff_eq_none] at hempty
    obtain ⟨⟨hfetch, hsample⟩, hstore⟩ := hempty
    rcases h with h | h | h | h | h
    · exact absurd hfetch h
    · exact absurd hsample h
    · exact absurd hstore h
    · simp only [h]
    · simp only [h]
  · rfl

/-- Settles O42: a burst lands as `landBurst` says and is credited by its client alone. -/
theorem burstWritesItsBytesAlone : Obligations.BurstWritesItsBytesAlone := by
  unfold Obligations.BurstWritesItsBytesAlone
  intro s
  constructor
  · intro hp
    refine congrArg Host.Outcome.next ?_
    simp only [burstComplete, hp]
  · intro b hp u read
    have hland : landBurst b s = u := landBurst_eq b s
    refine ⟨hland, ⟨burstComplete s, rfl, ?_, ?_⟩, ?_⟩
    · intro hd
      rw [burstComplete_mem hp, landBurst_mem_of_read s hd]
    · intro bytes hd
      rw [burstComplete_mem hp, landBurst_mem_of_write s hd]
      exact ⟨Memory.read_writeRun_other bytes s.mem b.addr,
        fun hmem i => Memory.read_writeRun_inside b.addr bytes hmem⟩
    · intro ht hm
      constructor
      · intro hw
        rw [exec_burstComplete_unwanted b s ht hm hp hw, hland]
      · intro hw
        have hexec := exec_burstComplete_wanted b s ht hm hp hw
        have hcomp : (landBurst b s).comp = s.comp := landBurst_comp b s
        have hactive : (landBurst b s).active = s.active := landBurst_active b s
        rw [hexec]
        refine ⟨?camera, ?scan, ?tileMap, ?fetch, ?sample, ?store⟩
        case camera =>
          intro i l rest hc hfifo
          simp only [creditBurst, hc]
          rw [landBurst_cams, Camera.burstDone_of_cons b.len hfifo, hland]
        case scan =>
          intro n hc hd places goesOn
          simp only [creditBurst, hc]
          rw [landBurst_out, burstRead_of_read s hd, hland]
          constructor
          · intro h
            exact congrArg (fun o => Host.Outcome.next (arbitrate (u.setOut o))) (Output.refill_of_mayFetch h)
          · intro h
            exact congrArg (fun o => Host.Outcome.next (arbitrate (u.setOut o))) (Output.refill_of_not_mayFetch h)
        case tileMap =>
          intro m hc hd
          simp only [creditBurst, hc]
          rw [burstRead_of_read s hd, mapBurstDone, hcomp, hland]
        case fetch =>
          intro t r todo got hc hd hfetch
          simp only [creditBurst, hc]
          rw [fetchBurstDone_of_fetch _ ((congrArg _ hcomp).trans hfetch), hcomp, hactive, burstRead_of_read s hd, hland]
        case sample =>
          intro t f r todo got px hc hd hsample
          simp only [creditBurst, hc]
          rw [sampleBurstDone_of_sample _ ((congrArg _ hcomp).trans hsample), hcomp, burstRead_of_read s hd, hland]
        case store =>
          intro t px n hc hstore
          have hstored := (congrArg Composer.store hcomp).trans hstore
          simp only [creditBurst, hc]
          constructor
          · intro hmore
            rw [storeBurstDone_of_more hstored hmore, hcomp, hactive, hland, settleEnd_of_onItsWay]
            exact Composer.OnItsWay.advance s.active (.inr (.inr (.inl (Option.some_ne_none _))))
          · intro hlast hway
            rw [storeBurstDone_of_last hstored hlast, hcomp, hactive, hland, settleEnd_of_onItsWay]
            refine Composer.OnItsWay.advance s.active ?_
            rcases hway with h | h | h | h
            · exact .inl h
            · exact .inr (.inl h)
            · exact .inr (.inr (.inr (.inl h)))
            · exact .inr (.inr (.inr (.inr h)))

end Sys2Proof.Machine
end

section
/-! Frame complete: the hand-offs at the end of a composition as one change of the state (R96 to R99; O43). -/

namespace Sys2Proof.Machine

/-- A notice's effect on the link follows from the link alone (R152). -/
theorem State.notice_link_congr {s t : State} (h : t.link = s.link) (k : NoticeKind) (p : List Byte) :
    (t.notice k p).link = (s.notice k p).link := by
  rw [State.notice_link, State.notice_link, h]

theorem gainUpdate_whole (s : State) : gainUpdate s = s.setStaged (match s.active.mode with
    | .manual => s.staged
    | .auto => { s.staged with
        gains := Vector.ofFn fun c => updatedGain c s.zones s.active.gains s.staged.gains }) := by
  unfold gainUpdate
  cases s.active.mode <;> rfl

/-- The shot changes the top state and the link, and in SHOT alone (R99, R138). -/
theorem settleShot_eq (s : State) : settleShot s = { s with
    top := if s.top.state = .shot then s.top.completeShot else s.top
    link := if s.top.state = .shot then
      (s.notice .shotDone (le16 s.comp.seq.toNat ++ [s.top.completeShot.state.code])).link else s.link } := by
  rw [settleShot_whole]
  split <;> rfl

/-- The selection table once every point still armed is recorded NOT_REACHED (R75). -/
def State.settledAnswers (s : State) : Vector Selection 4 :=
  Vector.ofFn fun i => if s.timer.armed[i] then .unavailable .notReached else s.comp.selection[i]

/-- The record of a published frame (R103). -/
def State.publishedRecord (s : State) : FrameRecord :=
  ⟨s.comp.seq, s.comp.markTime, .published, s.comp.index, s.settledAnswers, s.active.gains, s.active.height,
    s.active.pair.getD ⟨0, 0, 0⟩, s.comp.fresh, s.comp.held, s.comp.filled⟩

/-- The state after steps 1 to 4 of R97: points cancelled, slots released, the frame published and recorded. -/
def State.recorded (s : State) (k : Fin 3) : State :=
  { s with
    cams := Vector.ofFn fun i => match s.settledAnswers[i] with
      | .available _ => s.cams[i].release
      | _ => s.cams[i]
    timer := { s.timer with armed := Vector.replicate 4 false }
    out := { s.out with slots := s.out.slots.set k s.out.slots[k].publish }
    comp := { s.comp with selection := s.settledAnswers, history := (s.publishedRecord :: s.comp.history).take 8 } }

theorem recorded_eq {s : State} {k : Fin 3} (h : s.comp.slot = some k) :
    let s1 := publishSlot (releaseSlots (cancelPoints s))
    s1.setComp { s1.comp with history := addRecord s1.comp.history (frameRecord s1 .published) } = s.recorded k := by
  intro s1
  let s0 := releaseSlots (cancelPoints s)
  have hslot : (releaseSlots (cancelPoints s)).comp.slot = some k := by
    rw [releaseSlots_whole, cancelPoints_whole]
    exact h
  have hpublish : s1 = s0.setOut { s0.out with slots := s0.out.slots.set k s0.out.slots[k].publish } := by
    simp only [s1, s0, publishSlot, hslot]
  have hreleased : s0 = _ := (releaseSlots_whole _).trans (by rw [cancelPoints_whole])
  rw [hpublish, hreleased]
  rfl

/-- The availability set that is settled (R86, R98). -/
def State.settledAvailability (s : State) : Vector Bool 4 := s.settledAnswers.map fun a => match a with
  | .available _ => true
  | _ => false

/-- The link's state after the COVERAGE notice, when one goes out (R98). -/
def State.coverageNoted (s : State) : State :=
  if s.comp.coverage = some s.settledAvailability then s
  else s.notice .coverage (le16 s.comp.seq.toNat ++ s.settledAnswers.toList.map Selection.code)

/-- The state after steps 5 and 6 of R97: the gains updated and the coverage settled. -/
def State.coverageSettled (s : State) (k : Fin 3) : State :=
  { s.recorded k with
    comp := { (s.recorded k).comp with coverage := some s.settledAvailability }
    staged := match s.active.mode with
      | .manual => s.staged
      | .auto => { s.staged with gains := Vector.ofFn fun c => updatedGain c s.zones s.active.gains s.staged.gains }
    link := s.coverageNoted.link }

theorem settleCoverage_gainUpdate (s : State) (k : Fin 3) :
    settleCoverage (gainUpdate (s.recorded k)) = s.coverageSettled k := by
  let v := (s.coverageSettled k).staged
  have hgains : gainUpdate (s.recorded k) = (s.recorded k).setStaged v := gainUpdate_whole _
  have hlink : (settleCoverage ((s.recorded k).setStaged v)).link = s.coverageNoted.link := by
    rw [settleCoverage_whole, State.setLink_link, State.coverageNoted]
    by_cases hsame : s.comp.coverage = some s.settledAvailability
    · rw [if_pos hsame]
      exact if_pos hsame
    · rw [if_neg hsame]
      exact (if_neg hsame).trans (State.notice_link_congr (s := s) (t := (s.recorded k).setStaged v) rfl _ _)
  rw [settleCoverage_whole, State.setLink_link] at hlink
  rw [hgains, settleCoverage_whole, hlink]
  rfl

/-- The state after frame complete. -/
def State.completed (s : State) (k : Fin 3) : State :=
  { s.coverageSettled k with
    comp := (s.coverageSettled k).comp.finish
    top := if s.top.state = .shot then s.top.completeShot else s.top
    link := if s.top.state = .shot then
        (s.coverageNoted.notice .shotDone (le16 s.comp.seq.toNat ++ [s.top.completeShot.state.code])).link
      else s.coverageNoted.link }

theorem frameComplete_eq {s : State} {k : Fin 3} (h : s.comp.slot = some k) : frameComplete s = s.completed k := by
  have hlink := State.notice_link_congr (s := s.coverageNoted) (t := s.coverageSettled k) rfl .shotDone
    (le16 s.comp.seq.toNat ++ [s.top.completeShot.state.code])
  rw [frameComplete, recorded_eq h]
  simp only [settleCoverage_gainUpdate]
  rw [settleShot_eq, State.completed, ← hlink]
  rfl

theorem settleEnd_of_drained {s : State} (h : s.comp.empty = true) (hs : s.comp.state = .draining) :
    settleEnd s = frameComplete s := by
  rw [settleEnd, if_pos h, hs]

/-- A landed burst is the port freed and the DRAM written. -/
theorem landBurst_whole (b : Burst) (s : State) :
    landBurst b s = (s.setArb { s.arb with port := none }).setMem (landBurst b s).mem := by
  unfold landBurst
  cases b.data <;> rfl

theorem exec_burstComplete_drained {b : Burst} {st : StoreStage} {k : Fin 3} {s : State} (ht : s.Takes)
    (hm : s.memStart = .complete) (hp : s.arb.port = some b) (hc : b.client = .store) (hw : b.wanted = true)
    (hdraining : s.comp.state = .draining) (hfetch : s.comp.fetch = none) (hsample : s.comp.sample = none)
    (hstore : s.comp.store = some st) (hlast : 3072 ≤ st.written + b.len) (hslot : s.comp.slot = some k) :
    exec .burstComplete s = .next (arbitrate
      (((landBurst b s).setComp { s.comp with store := none }).completed k)) := by
  have hcredit : creditBurst b (burstRead b s) (landBurst b s) = storeBurstDone b.len (landBurst b s) := by
    simp only [creditBurst, hc]
  have hstill : Composer.advance { s.comp with store := none } s.active = { s.comp with store := none } :=
    Composer.advance_still _ _ (by simp [hdraining]) hfetch hsample
  have hempty : ((landBurst b s).setComp { s.comp with store := none }).comp.empty = true := by
    simp [Composer.empty, hfetch, hsample]
  rw [exec_burstComplete_wanted b s ht hm hp hw, hcredit,
    storeBurstDone_of_last ((congrArg _ (landBurst_comp b s)).trans hstore) hlast, landBurst_comp, landBurst_active,
    hstill, settleEnd_of_drained hempty hdraining]
  exact congrArg (fun t => Host.Outcome.next (arbitrate t)) (frameComplete_eq hslot)

/-- Settles O43: the last STORE burst empties the pipeline, and the state after frame complete is read off. -/
theorem frameCompletePublishesTheFrame : Obligations.FrameCompletePublishesTheFrame := by
  unfold Obligations.FrameCompletePublishesTheFrame
  intro b st k q s ht hm hp hc hw hdraining hfetch hsample hstore hlast hslot hcomposing answers available released
    shotTop noted
  rw [exec_burstComplete_drained ht hm hp hc hw hdraining hfetch hsample hstore hlast hslot, landBurst_whole]
  generalize (landBurst b s).mem = m
  let u := ((s.setArb { s.arb with port := none }).setMem m).setComp { s.comp with store := none }
  have hcams : (u.completed k).cams = Vector.ofFn fun i => match answers[i] with
      | .available _ => released s.cams[i]
      | _ => s.cams[i] := by
    have hrelease : Camera.release = released := funext Camera.release_slots
    rw [← hrelease]
    rfl
  have hout : (u.completed k).out = { s.out with slots := s.out.slots.set k (.published q) } := by
    have hpublish : s.out.slots[k].publish = .published q := by rw [hcomposing]; rfl
    rw [← hpublish]
    rfl
  have hnoted : u.coverageNoted.link = noted.link := by
    have hnotice := State.notice_link_congr (s := s) (t := u) rfl .coverage
      (le16 s.comp.seq.toNat ++ answers.toList.map Selection.code)
    rw [State.coverageNoted, apply_ite State.link, apply_ite State.link, ← hnotice]
    rfl
  have hlink : (u.completed k).link = if s.top.state = .shot then
      (noted.notice .shotDone (le16 s.comp.seq.toNat ++ [shotTop.state.code])).link else noted.link := by
    rw [← hnoted, ← State.notice_link_congr hnoted]
    rfl
  refine congrArg (fun t => Host.Outcome.next (arbitrate t)) ?_
  exact State.mk.injEq .. |>.mpr 
    ⟨rfl, rfl, rfl, rfl, hlink, rfl, rfl, hcams, rfl, rfl, rfl, rfl, rfl, rfl, rfl, hout, rfl, rfl⟩

end Sys2Proof.Machine
end

section
/-! The line buffer and the pixels that leave the display port (R119 to R123; O45). -/

namespace Sys2Proof.Machine

/-! ### Line time end and underrun (R120, R121, R122) -/

theorem lineTimeEndEvent_of_past {s : State} (h : 768 ≤ s.out.linesEnded) : lineTimeEndEvent s = s :=
  if_neg (Nat.not_lt.mpr h)

theorem lineTimeEndEvent_of_line {s : State} (h : s.out.linesEnded < 768) :
    lineTimeEndEvent s = arbitrate (s.setOut s.out.endLine) := if_pos h

theorem lineUnderrunEvent_of_no_source {s : State} (h : s.out.source = none) : lineUnderrunEvent s = s := by
  simp only [lineUnderrunEvent, h]

theorem State.setOut_notice (s : State) (o : Output) (k : NoticeKind) (p : List Byte) :
    (s.setOut o).notice k p = (s.notice k p).setOut o := by
  rw [State.notice_whole, State.notice_whole s, State.notice_link_congr (s := s) (t := s.setOut o) rfl]
  rfl

/-- The state once the first underrun of a period has handed its notice (R122). -/
def State.underrunNoted (s : State) (k : Fin 3) : State :=
  if s.out.reported then s else s.notice .underrun (underrunPayload s k)

/-- An underrun of the line being sent drops it, counts it and reports it (R121, R122). -/
theorem lineUnderrunEvent_of_late {s : State} {k : Fin 3} {p : LinePlace} (hsource : s.out.source = some k)
    (hcurrent : s.out.current = some p) (hfetching : p.fetching = true) : lineUnderrunEvent s =
      arbitrate ((s.underrunNoted k).setOut { s.out.dropLine with reported := true }) := by
  simp only [lineUnderrunEvent, hsource, hcurrent, if_pos hfetching, State.underrunNoted]
  by_cases hreported : s.out.reported = true
  · have hkept : { s.out.dropLine with reported := true } = s.out.dropLine := by
      have hsame : s.out.dropLine.reported = true := by
        rw [Output.dropLine, Output.refill]
        split <;> exact hreported
      rw [← hsame]
    rw [if_pos hreported, if_pos hreported, hkept]
  · rw [if_neg hreported, if_neg hreported]
    exact congrArg arbitrate (State.setOut_notice s _ .underrun _)

/-! ### The pixels that leave the port (R119 to R123) -/

theorem displayPixel_of_elsewhere {s : State} {n k : Nat}
    (h : 768 ≤ n ∨ 512 ≤ k ∨ s.timer.counter ≠ s.timer.pixelTime n k) : s.displayPixel n k = none := by
  rw [State.displayPixel, if_neg]
  rintro ⟨_, hn, hk, htime⟩
  rcases h with h | h | h
  · omega
  · omega
  · exact h htime.symm

theorem displayPixel_of_leaving {s : State} (ht : s.Takes) {n k : Nat} (hn : n < 768) (hk : k < 512)
    (htime : s.timer.counter = s.timer.pixelTime n k) : s.displayPixel n k = some (s.pixelValue n k) :=
  if_pos ⟨ht, hn, hk, htime.symm⟩

theorem pixelValue_of_fill {s : State} (n k : Nat) (h : s.out.source = none) : s.pixelValue n k = s.active.fill := by
  simp only [State.pixelValue, h]

theorem pixelValue_of_place {s : State} {n : Nat} (k : Nat) {j : Fin 3} {p : LinePlace} (hsource : s.out.source = some j)
    (hplace : s.out.places.find? (fun x => decide (x.line = n)) = some p) : s.pixelValue n k =
      if p.got.length < 3 * k + 3 then s.active.fill
      else ⟨byteAt p.got (3 * k), byteAt p.got (3 * k + 1), byteAt p.got (3 * k + 2)⟩ := by
  simp only [State.pixelValue, hsource, hplace, ← Nat.not_le, ite_not]
  rfl

theorem pixelValue_of_no_place {s : State} {n : Nat} (k : Nat) (h : ∀ x ∈ s.out.places, x.line ≠ n) :
    s.pixelValue n k = s.active.fill := by
  have hnone : s.out.places.find? (fun x => decide (x.line = n)) = none :=
    List.find?_eq_none.mpr fun x hx => by simpa using h x hx
  simp only [State.pixelValue, hnone]
  cases s.out.source <;> rfl

/-- Each pixel of a line leaves within the line's own time. -/
theorem pixelTime_bounds (t : Timer) (n : Nat) {k : Nat} (hl : 0 < t.lineTime) (hk : k < 512) :
    (n + 1) * t.lineTime ≤ t.pixelTime n k ∧ t.pixelTime n k < (n + 2) * t.lineTime := by
  have hwithin : k * t.lineTime / 512 < t.lineTime := by
    rw [Nat.div_lt_iff_lt_mul (by decide), Nat.mul_comm t.lineTime]
    exact Nat.mul_lt_mul_of_pos_right hk hl
  have hsplit : (n + 2) * t.lineTime = (n + 1) * t.lineTime + t.lineTime := by ring
  rw [Timer.pixelTime]
  omega

/-- No pixel leaves in the first line time and after line 767. -/
theorem displayPixel_of_no_line {s : State} (hl : 0 < s.timer.lineTime)
    (h : s.timer.counter < s.timer.lineTime ∨ 769 * s.timer.lineTime ≤ s.timer.counter) (n k : Nat) :
    s.displayPixel n k = none := by
  by_cases hplace : n < 768 ∧ k < 512
  · obtain ⟨hn, hk⟩ := hplace
    obtain ⟨hlow, hhigh⟩ := pixelTime_bounds s.timer n hl hk
    have hfirst : s.timer.lineTime ≤ (n + 1) * s.timer.lineTime := Nat.le_mul_of_pos_left _ (Nat.succ_pos n)
    have hlast : (n + 2) * s.timer.lineTime ≤ 769 * s.timer.lineTime := Nat.mul_le_mul_right _ (by omega)
    exact displayPixel_of_elsewhere (.inr (.inr (by omega)))
  · exact displayPixel_of_elsewhere (by omega)

theorem displayPort_of_no_line {s : State}
    (h : s.timer.counter < s.timer.lineTime ∨ 769 * s.timer.lineTime ≤ s.timer.counter) : s.displayPort = [] := by
  have hnone : s.timer.lineNow = none := if_neg (by omega)
  simp only [State.displayPort, hnone]

theorem displayPort_of_line {s : State} {n : Nat} (hn : n < 768)
    (hfrom : (n + 1) * s.timer.lineTime ≤ s.timer.counter) (hto : s.timer.counter < (n + 2) * s.timer.lineTime) :
    s.displayPort = (List.range 512).filterMap fun k => s.displayPixel n k := by
  have hfirst : s.timer.lineTime ≤ (n + 1) * s.timer.lineTime := Nat.le_mul_of_pos_left _ (Nat.succ_pos n)
  have hlast : (n + 2) * s.timer.lineTime ≤ 769 * s.timer.lineTime := Nat.mul_le_mul_right _ (by omega)
  have hdiv : s.timer.counter / s.timer.lineTime = n + 1 :=
    Nat.div_eq_of_lt_le (by simpa using hfrom) (by simpa using hto)
  have hnow : s.timer.lineNow = some n := by
    rw [Timer.lineNow, if_pos (by omega), hdiv]
    rfl
  simp only [State.displayPort, hnow]

/-- Settles O45: the two events by what the line buffer holds, the port by the counter value of each pixel. -/
theorem linesEndAndUnderrunInOrder : Obligations.LinesEndAndUnderrunInOrder := by
  unfold Obligations.LinesEndAndUnderrunInOrder
  constructor
  · intro s ht n next
    have hend : exec .lineTimeEnd s = .next (lineTimeEndEvent s) :=
      congrArg Host.Outcome.next (unlessAsserted_of_takes _ ht)
    have hunderrun : exec .lineUnderrun s = .next (lineUnderrunEvent s) :=
      congrArg Host.Outcome.next (unlessAsserted_of_takes _ ht)
    rw [hend, hunderrun]
    refine ⟨?past, ?line, ?fill, ?late⟩
    case past =>
      intro hn
      rw [lineTimeEndEvent_of_past hn]
    case line =>
      intro hn kept
      rw [lineTimeEndEvent_of_line hn]
      exact ⟨fun h => congrArg (fun o => Host.Outcome.next (arbitrate (s.setOut o))) (Output.refill_of_mayFetch h),
        fun h => congrArg (fun o => Host.Outcome.next (arbitrate (s.setOut o))) (Output.refill_of_not_mayFetch h)⟩
    case fill =>
      intro hsource
      rw [lineUnderrunEvent_of_no_source hsource]
    case late =>
      intro k q p hsource hslot hplace hdropped hshort kept noted
      have hnoted : s.underrunNoted k = noted := by
        have hpayload : underrunPayload s k =
            le32 (s.timer.timebase - BitVec.ofNat 32 s.timer.counter).toNat ++ le16 n ++ le16 q.toNat ++
              le16 (s.out.underruns + 1#16).toNat := by
          rw [underrunPayload, hslot]
          rfl
        rw [State.underrunNoted, hpayload]
      rw [lineUnderrunEvent_of_late hsource hplace (p.fetching_iff.mpr ⟨hdropped, hshort⟩), hnoted]
      let late : Output := { s.out with places := kept, underruns := s.out.underruns + 1#16 }
      exact ⟨fun h => congrArg (fun o : Output => Host.Outcome.next (arbitrate (noted.setOut { o with reported := true })))
          (Output.refill_of_mayFetch (o := late) h),
        fun h => congrArg (fun o : Output => Host.Outcome.next (arbitrate (noted.setOut { o with reported := true })))
          (Output.refill_of_not_mayFetch (o := late) h)⟩
  · intro s ht hperiod l t
    have hl : 0 < s.timer.lineTime := Nat.div_pos hperiod (by decide)
    refine ⟨fun n k => ⟨displayPixel_of_elsewhere, fun hn hk htime => ?_⟩, ?_, fun n hn => displayPort_of_line hn⟩
    · rw [displayPixel_of_leaving ht hn hk htime]
      refine ⟨fun hsource => ?_, fun j p hsource hplace => ?_, fun hnone => ?_⟩
      · rw [pixelValue_of_fill n k hsource]
      · rw [pixelValue_of_place k hsource hplace]
      · rw [pixelValue_of_no_place k hnone]
    · exact fun h => ⟨displayPort_of_no_line h, displayPixel_of_no_line hl h⟩

end Sys2Proof.Machine
end

section
/-! The resets and the memory start (R128, R139 to R142; O46, O47). -/

namespace Sys2Proof.Machine

/-! ### The set of READY banks (R142, Table 11-3) -/

/-- The number whose bits are the READY entries of a directory, the first entry in bit 0. -/
def readyBits : List BankEntry → Nat
  | [] => 0
  | e :: es => 2 * readyBits es + if e.digest?.isSome then 1 else 0

theorem testBit_readyBits (es : List BankEntry) (k : Nat) :
    (readyBits es).testBit k = ((es[k]?.bind BankEntry.digest?).isSome) := by
  induction es generalizing k with
  | nil => simp [readyBits]
  | cons e es ih =>
    cases k with
    | zero =>
      rw [readyBits, Nat.testBit_zero]
      split <;> simp_all
    | succ k =>
      have hhalf : readyBits (e :: es) / 2 = readyBits es := by
        rw [readyBits]
        split <;> omega
      rw [Nat.testBit_succ, hhalf, ih]
      rfl

/-- The sum of the READY entries' powers of two is that number. -/
theorem sum_readyBits (es : List BankEntry) (n : Nat) :
    ((es.zipIdx n).map fun eb => match eb.1 with
      | .ready _ => 2 ^ eb.2
      | _ => 0).sum = 2 ^ n * readyBits es := by
  induction es generalizing n with
  | nil => rfl
  | cons e es ih =>
    rw [List.zipIdx_cons, List.map_cons, List.sum_cons, ih, readyBits, Nat.pow_succ]
    cases e <;> simp [BankEntry.digest?] <;> ring

theorem readyBanks_eq (dir : Vector BankEntry 8) : readyBanks dir = readyBits dir.toList := by
  have hsum := sum_readyBits dir.toList 0
  rw [Nat.pow_zero, Nat.one_mul] at hsum
  exact hsum

/-- Bit b of the STARTED notice tells whether bank b is READY. -/
theorem getLsbD_readyBanks (dir : Vector BankEntry 8) (b : Fin 8) :
    (byteOf (readyBanks dir)).getLsbD b.val = true ↔ ∃ d, dir[b] = .ready d := by
  have hentry : dir.toList[b.val]? = some dir[b] := by simp
  rw [byteOf, BitVec.getLsbD_ofNat, decide_eq_true b.isLt, Bool.true_and, readyBanks_eq, testBit_readyBits, hentry]
  rw [Option.bind_some, Option.isSome_iff_exists]
  exact exists_congr fun d => BankEntry.digest?_eq_some_iff dir[b] d

/-! ### What both resets leave (R133, R139, R141) -/

theorem Arbiter.afterReset_port (a : Arbiter) :
    a.afterReset.port = a.port.map fun b => { b with wanted := false } := by
  unfold afterReset unwant
  cases h : a.port <;> simp [h]

/-- A state with every block at its reset values, but for what the two resets leave differently. -/
def State.blocksReset (s : State) (asserted : Bool) (start : MemStart) (link : Link) (dir : Vector BankEntry 8) : State :=
  { State.reset with
    pending := s.pending
    ties := s.ties
    resetAsserted := asserted
    memStart := start
    link := link
    banks := { Banks.default with dir := dir }
    arb := s.arb.afterReset
    mem := s.mem }

theorem exec_pinReset (s : State) : exec .pinReset s =
    .next (s.blocksReset false .bringUp Link.default (Vector.replicate 8 .empty)) := rfl

theorem exec_reset {tag : Byte} {s : State} (ht : s.Takes) (hm : s.memStart = .complete) (hroom : s.occupancy < 16) :
    exec (.reset tag []) s = .next (softReset s) := by
  refine congrArg Host.Outcome.next ?_
  rw [passGate_of_started 0x06#8 tag _ s ht hm, if_neg (Nat.not_le.mpr hroom), if_neg (by simp)]
  rfl

theorem BankEntry.softReset_ready_iff (e : BankEntry) (d : Word) : e.softReset = .ready d ↔ e = .ready d := by
  cases e <;> simp [softReset]

/-- Settles O46: both resets leave `State.blocksReset`, and differ in the directory and the link alone. -/
theorem resetsLeaveTheManualsValues : Obligations.ResetsLeaveTheManualsValues := by
  unfold Obligations.ResetsLeaveTheManualsValues
  intro tag s params blocks
  have hblocks (asserted : Bool) (start : MemStart) (link : Link) (dir : Vector BankEntry 8) :
      blocks (s.blocksReset asserted start link dir) := by
    have hport : (s.blocksReset asserted start link dir).arb.port = _ := s.arb.afterReset_port
    refine ⟨rfl, rfl, ?_, rfl, rfl, rfl, rfl, rfl, rfl, rfl, rfl, rfl, rfl, ?_, rfl, rfl, ?_, rfl, rfl, rfl, rfl, rfl, rfl,
      rfl, rfl, ?_, rfl, rfl, rfl, rfl, rfl, rfl, ?_, ?_⟩
    · exact fun i => Vector.getElem_replicate i.isLt
    · exact fun i => Vector.getElem_replicate i.isLt
    · exact fun n => Vector.getElem_replicate n.isLt
    · exact fun z => Vector.getElem_replicate z.isLt
    · intro hnone
      rw [hport, hnone]
      rfl
    · intro b hb
      rw [hport, hb]
      rfl
  constructor
  · exact ⟨_, exec_pinReset s, hblocks _ _ _ _, rfl, rfl, rfl, fun b => Vector.getElem_replicate b.isLt⟩
  · intro ht hm hroom
    let dir := s.banks.dir.map BankEntry.softReset
    have hdir (b : Fin 8) : dir[b] = s.banks.dir[b].softReset := Vector.getElem_map ..
    refine ⟨softReset s, exec_reset ht hm hroom, hblocks _ _ _ _, rfl, ?_, ?_, rfl, rfl, rfl, ?_⟩
    · intro b
      refine (hdir b).trans ?_
      cases s.banks.dir[b] <;> rfl
    · refine ⟨byteOf (readyBanks dir), rfl, fun b => ?_⟩
      rw [getLsbD_readyBanks, hdir]
      exact exists_congr fun d => s.banks.dir[b].softReset_ready_iff d
    · intro hwindow
      exact congrArg (Option.map _) hwindow

/-! ### The memory start (R128, R140) -/

theorem dramInOperation_of_begun {s : State} (h : s.memStart ≠ .bringUp) : dramInOperation s = s := by
  unfold dramInOperation
  split
  · exact absurd ‹_› h
  · rfl

theorem resumeFill_of_fill {s : State} {k : Nat} (hm : s.memStart = .bodyFill k) (hp : s.arb.port = none) :
    resumeFill s = s.onPort (fillBurst k) := by
  simp only [resumeFill, hm, hp]

theorem dramInOperation_of_bringUp {s : State} (h : s.memStart = .bringUp) (hp : s.arb.port = none) :
    dramInOperation s = (s.setMemStart (.bodyFill 0)).onPort (fillBurst 0) := by
  simp only [dramInOperation, h]
  exact resumeFill_of_fill rfl hp

theorem arbitrate_of_busy {s : State} (h : s.arb.port ≠ none) : arbitrate s = s :=
  arbitrate_of_held s (.inl (Option.isSome_iff_ne_none.mpr h))

/-- A burst of the body fill lands, and the memory start takes note of it before the next grant. -/
theorem burstComplete_of_fill {s : State} {k : Nat} (ht : s.Takes) (hp : s.arb.port = some (fillBurst k)) :
    burstComplete s = arbitrate (resumeFill (fillBurstDone (landBurst (fillBurst k) s))) :=
  burstComplete_wanted (fillBurst k) s ht hp rfl

/-- The bytes of the body fill's burst `k` in DRAM (R124). -/
def State.filled (s : State) (k : Nat) : State :=
  s.setMem (Memory.writeRun s.mem (bodyBase + 256 * k) ((List.range 256).map fun i => bodyFillByte (256 * k + i)))

theorem landBurst_fill (s : State) (k : Nat) :
    landBurst (fillBurst k) s = (s.filled k).setArb { s.arb with port := none } := landBurst_eq _ s

theorem fillBurstDone_of_more {s : State} {k : Nat} (h : s.memStart = .bodyFill k) (hmore : k + 1 < 4608) :
    fillBurstDone s = s.setMemStart (.bodyFill (k + 1)) := by
  simp only [fillBurstDone, h]
  exact if_neg (Nat.not_le.mpr hmore)

theorem fillBurstDone_of_last {s : State} {k : Nat} (h : s.memStart = .bodyFill k) (hlast : k + 1 = 4608) :
    fillBurstDone s = memoryStartComplete s := by
  simp only [fillBurstDone, h]
  exact if_pos hlast.ge

/-- Each burst of the body fill but the last brings the next one onto the port. -/
theorem burstComplete_of_fill_more {s : State} {k : Nat} (ht : s.Takes) (hm : s.memStart = .bodyFill k)
    (hp : s.arb.port = some (fillBurst k)) (hmore : k + 1 < 4608) : burstComplete s =
      ((s.filled k).setMemStart (.bodyFill (k + 1))).setArb { s.arb with port := some (fillBurst (k + 1)) } := by
  rw [burstComplete_of_fill ht hp, fillBurstDone_of_more ((landBurst_memStart _ s).trans hm) hmore, landBurst_fill,
    resumeFill_of_fill rfl rfl, arbitrate_of_busy (Option.some_ne_none _)]
  simp only [State.onPort, State.setArb, State.setMemStart]

/-- The last burst of the body fill ends the memory start. -/
theorem burstComplete_of_fill_last {s : State} {k : Nat} (ht : s.Takes) (hm : s.memStart = .bodyFill k)
    (hp : s.arb.port = some (fillBurst k)) (hlast : k + 1 = 4608) : burstComplete s =
      arbitrate (memoryStartComplete ((s.filled k).setArb { s.arb with port := none })) := by
  rw [burstComplete_of_fill ht hp, fillBurstDone_of_last ((landBurst_memStart _ s).trans hm) hlast,
    resumeFill_of_complete _ rfl, landBurst_fill]

/-- Settles O47: the memory start burst by burst. -/
theorem memoryStartFillsTheBodyPlaneAndStarts : Obligations.MemoryStartFillsTheBodyPlaneAndStarts := by
  unfold Obligations.MemoryStartFillsTheBodyPlaneAndStarts
  intro s ht fill burst
  have hexec : exec .dramInOperation s = .next (dramInOperation s) :=
    congrArg Host.Outcome.next (unlessAsserted_of_takes _ ht)
  rw [hexec]
  refine ⟨fun hbegun => ?_, fun hup hp => ?_, fun k hm hp => ⟨fun hmore => ?_, fun hlast => ?_⟩⟩
  · rw [dramInOperation_of_begun hbegun]
  · rw [dramInOperation_of_bringUp hup hp]
    rfl
  · exact congrArg Host.Outcome.next (burstComplete_of_fill_more ht hm hp hmore)
  · exact ⟨_, congrArg Host.Outcome.next (burstComplete_of_fill_last ht hm hp hlast),
      getLsbD_readyBanks s.banks.dir⟩

end Sys2Proof.Machine
end

section
/-! The arbiter's grant: its order, and the first camera that offers (R132; for O48). -/

namespace Sys2Proof.Machine

/-! ### The order of the grant (R132) -/

theorem findSome?_finRange_eq_some {α : Type} {n : Nat} {f : Fin n → Option α} {d : Fin n} {x : α} (hd : f d = some x)
    (hlow : ∀ k : Fin n, k < d → f k = none) : (List.finRange n).findSome? f = some x := by
  refine List.findSome?_eq_some_iff.mpr ⟨(List.finRange n).take d, d, (List.finRange n).drop (d + 1), ?_, hd, ?_⟩
  · have hsplit := List.take_append_drop d.val (List.finRange n)
    rw [List.drop_eq_getElem_cons (by simp), List.getElem_finRange] at hsplit
    exact hsplit.symm
  · intro k hk
    obtain ⟨i, hi, rfl⟩ := List.mem_take_iff_getElem.mp hk
    refine hlow _ ?_
    simp only [List.getElem_finRange, Fin.lt_def, Fin.val_cast]
    omega

/-- The cameras are asked from the one after the last camera granted on. -/
theorem camerasOffer_eq (s : State) : camerasOffer s = (List.finRange 4).findSome? fun d =>
    (camOffer s (s.arb.lastCam + 1 + d)).map fun b => (b, s.arb.lastCam + 1 + d) := by
  have hround (k : Fin 4) : [k + 1, k + 2, k + 3, k + 4] = (List.finRange 4).map fun d => k + 1 + d := by
    revert k
    decide
  simp only [camerasOffer, hround, List.head?_filterMap, List.findSome?_map]
  rfl

theorem camerasOffer_of_first {s : State} {d : Fin 4} {b : Burst} (h : camOffer s (s.arb.lastCam + 1 + d) = some b)
    (hlow : ∀ d' : Fin 4, d' < d → camOffer s (s.arb.lastCam + 1 + d') = none) :
    camerasOffer s = some (b, s.arb.lastCam + 1 + d) := by
  rw [camerasOffer_eq]
  exact findSome?_finRange_eq_some (by rw [h]; rfl) fun k hk => by rw [hlow k hk]; rfl

theorem camerasOffer_of_none {s : State} (h : ∀ c : Fin 4, camOffer s c = none) : camerasOffer s = none := by
  rw [camerasOffer_eq, List.findSome?_eq_none_iff]
  intro d _
  rw [h]
  rfl

section grant
variable {s : State}

theorem arbitrate_of_free (hp : s.arb.port = none) (hm : s.memStart = .complete) (ht : s.Takes) :
    arbitrate s = grant s := by
  have hstarting : s.starting = false := (s.starting_eq_false_iff).mpr hm
  refine if_neg ?_
  rw [hp, hstarting, show s.resetAsserted = false from ht]
  simp

theorem grant_of_scan {b : Burst} (h : scanOffer s.out = some b) : grant s = s.onPort b := by
  simp only [grant, h]

theorem grant_of_camera {b : Burst} {c : Fin 4} (hscan : scanOffer s.out = none) (h : camerasOffer s = some (b, c)) :
    grant s = s.setArb { s.arb with port := some b, lastCam := c } := by
  simp only [grant, hscan, h]

theorem grant_of_comp {b : Burst} (hscan : scanOffer s.out = none) (hcams : camerasOffer s = none)
    (h : compOffer s = some b) : grant s = s.onPort b := by
  simp only [grant, hscan, hcams, h]

theorem grant_of_aux {b : Burst} {src : AuxSource} (hscan : scanOffer s.out = none) (hcams : camerasOffer s = none)
    (hcomp : compOffer s = none) (h : auxOffer s = some (b, src)) :
    grant s = s.setArb { s.arb with port := some b, auxLast := src } := by
  simp only [grant, hscan, hcams, hcomp, h]

theorem grant_of_none (hscan : scanOffer s.out = none) (hcams : camerasOffer s = none) (hcomp : compOffer s = none)
    (h : auxOffer s = none) : grant s = s := by
  simp only [grant, hscan, hcams, hcomp, h]

end grant

/-! ### SCAN (R115, R120) -/

theorem scanOffer_of_no_source {o : Output} (h : o.source = none) : scanOffer o = none := by
  simp only [scanOffer, h]

/-- Places whose lines are not being fetched. -/
theorem find?_fetching_of_none {l : List LinePlace} (h : ∀ x ∈ l, x.dropped = true ∨ 1536 ≤ x.got.length) :
    l.find? LinePlace.fetching = none :=
  List.find?_eq_none.mpr fun x hx => by
    rw [x.fetching_eq_false_iff.mpr (h x hx)]
    exact Bool.false_ne_true

theorem scanOffer_of_no_line {o : Output} (h : ∀ x ∈ o.places, x.dropped = true ∨ 1536 ≤ x.got.length) :
    scanOffer o = none := by
  have hnone : o.places.find? (fun p => !p.dropped && decide (p.got.length < lineBytes)) = none :=
    find?_fetching_of_none h
  simp only [scanOffer, hnone]
  cases o.source <;> rfl

/-- The first byte of a tile column of a line (R115). -/
theorem canvasByte_column (c n : Nat) : canvasByte (32 * c) n 0 = 3072 * ((n / 32) * 16 + c) + 96 * (n % 32) := by
  unfold canvasByte tileOf
  omega

theorem scanOffer_of_line {o : Output} {k : Fin 3} {l r : List LinePlace} {p : LinePlace} (hsource : o.source = some k)
    (hplaces : o.places = l ++ p :: r) (hbefore : ∀ x ∈ l, x.dropped = true ∨ 1536 ≤ x.got.length)
    (hdropped : p.dropped = false) (hshort : p.got.length < 1536) : scanOffer o = some ⟨.scan p.line,
      outAddr k + 3072 * ((p.line / 32) * 16 + p.got.length / 96) + 96 * (p.line % 32), 96, none, true⟩ := by
  have hfind : o.places.find? (fun p => !p.dropped && decide (p.got.length < lineBytes)) = some p := by
    have hp : p.fetching = true := p.fetching_iff.mpr ⟨hdropped, hshort⟩
    change o.places.find? LinePlace.fetching = some p
    rw [hplaces, List.find?_append, find?_fetching_of_none hbefore, Option.none_or, List.find?_cons_of_pos hp]
  simp only [scanOffer, hsource, hfind, canvasByte_column, Nat.add_assoc]

/-! ### COMP (R130) -/

theorem compOffer_of_idle {s : State} (h : s.comp.state = .idle) : compOffer s = none := if_pos h

theorem compOffer_of_composing {s : State} (h : s.comp.state ≠ .idle) : compOffer s =
    (storeOffer s.comp).or ((sampleOffer s.comp).or ((fetchOffer s.comp).or (mapOffer s))) := if_neg h

theorem storeOffer_of_more {c : Composer} {t : Tile} {px : List Byte} {n : Nat} (h : c.store = some ⟨t, px, n⟩)
    (hmore : n < 3072) : storeOffer c = some ⟨.store, outAddr t.slot + 3072 * t.index + n, min 256 (3072 - n),
      some (slice px n 256), true⟩ := by
  simp only [storeOffer, h]
  exact if_pos hmore

theorem storeOffer_of_done {c : Composer} (h : ∀ st, c.store = some st → 3072 ≤ st.written) : storeOffer c = none := by
  unfold storeOffer
  split
  · rfl
  · exact if_neg (Nat.not_lt.mpr (h _ ‹_›))

theorem sampleOffer_of_more {c : Composer} {t : Tile} {f : List Byte} {r : Run} {todo : List Run} {g : List Byte}
    {px : Option (List Byte)} (h : c.sample = some ⟨t, f, r :: todo, g, px⟩) :
    sampleOffer c = some ⟨.sample, r.addr, r.len, none, true⟩ := by
  simp only [sampleOffer, h]

theorem sampleOffer_of_done {c : Composer} (h : ∀ x, c.sample = some x → x.todo = []) : sampleOffer c = none := by
  unfold sampleOffer
  split
  · exact absurd (h _ ‹_›) (List.cons_ne_nil _ _)
  · rfl

theorem fetchOffer_of_more {c : Composer} {t : Tile} {r : Run} {todo : List Run} {g : List Byte}
    (h : c.fetch = some ⟨t, r :: todo, g⟩) : fetchOffer c = some ⟨.fetch, r.addr, r.len, none, true⟩ := by
  simp only [fetchOffer, h]

theorem fetchOffer_of_done {c : Composer} (h : ∀ x, c.fetch = some x → x.todo = []) : fetchOffer c = none := by
  unfold fetchOffer
  split
  · exact absurd (h _ ‹_›) (List.cons_ne_nil _ _)
  · rfl

/-- A tile-map run is kept. -/
def Composer.Keeps (c : Composer) (n : Nat) : Prop := ∃ r ∈ c.mapRuns, r.run = n

theorem Composer.mapRun_isNone_iff (c : Composer) (n : Nat) : (c.mapRun n).isNone = true ↔ ¬ c.Keeps n := by
  simp [mapRun, Keeps]

section wantedRun
variable {c : Composer} (hreads : c.state = .issuing ∨ c.state = .waiting) (hindex : c.index < 384)
include hreads hindex

theorem Composer.wantedRun_of_reads : c.wantedRun =
    if (c.mapRun (c.index / 64)).isNone then some (c.index / 64)
    else if c.index / 64 + 1 < 6 ∧ (c.mapRun (c.index / 64 + 1)).isNone then some (c.index / 64 + 1)
    else none := by
  rw [wantedRun, if_pos hreads]
  exact if_neg (by omega)

theorem Composer.wantedRun_of_missing (h : ¬ c.Keeps (c.index / 64)) : c.wantedRun = some (c.index / 64) := by
  rw [wantedRun_of_reads hreads hindex, if_pos ((c.mapRun_isNone_iff _).mpr h)]

theorem Composer.wantedRun_of_kept (h : c.Keeps (c.index / 64)) : c.wantedRun =
    if c.index / 64 + 1 < 6 ∧ (c.mapRun (c.index / 64 + 1)).isNone then some (c.index / 64 + 1) else none := by
  rw [wantedRun_of_reads hreads hindex, if_neg fun hnone => (c.mapRun_isNone_iff _).mp hnone h]

theorem Composer.wantedRun_of_next_missing (h : c.Keeps (c.index / 64)) (hnext : c.index / 64 < 5)
    (hmissing : ¬ c.Keeps (c.index / 64 + 1)) : c.wantedRun = some (c.index / 64 + 1) := by
  rw [wantedRun_of_kept hreads hindex h, if_pos ⟨by omega, (c.mapRun_isNone_iff _).mpr hmissing⟩]

theorem Composer.wantedRun_of_both_kept (h : c.Keeps (c.index / 64))
    (hnext : c.index / 64 = 5 ∨ c.Keeps (c.index / 64 + 1)) : c.wantedRun = none := by
  rw [wantedRun_of_kept hreads hindex h, if_neg]
  rintro ⟨hlt, hnone⟩
  rcases hnext with hlast | hkept
  · omega
  · exact (c.mapRun_isNone_iff _).mp hnone hkept

end wantedRun

theorem Composer.wantedRun_of_no_reads {c : Composer} (h : ¬ (c.state = .issuing ∨ c.state = .waiting) ∨ 384 ≤ c.index) :
    c.wantedRun = none := by
  unfold wantedRun
  split
  · next hreads =>
    have hindex : 384 ≤ c.index := h.resolve_left (not_not.mpr hreads)
    exact if_pos (by omega)
  · rfl

theorem mapOffer_of_wanted {s : State} {n : Nat} {pair : BankPair} (hn : s.comp.wantedRun = some n)
    (hpair : s.active.pair = some pair) :
    mapOffer s = some ⟨.tileMap n, bankAddr pair.low + 107185 + 256 * n, 256, none, true⟩ := by
  simp only [mapOffer, hn, hpair]
  rfl

theorem mapOffer_of_none {s : State} (h : s.comp.wantedRun = none) : mapOffer s = none := by
  simp only [mapOffer, h]

/-! ### AUX (R131) -/

theorem jobOffer_of_none {s : State} (h : s.slot = none) : jobOffer s = none := by
  simp only [jobOffer, h]

theorem jobOffer_of_done {s : State} {j : Job} (h : s.slot = some j) (hdone : j.work.run.len ≤ j.moved) :
    jobOffer s = none := by
  simp only [jobOffer, h, if_neg (Nat.not_lt.mpr hdone)]

theorem jobOffer_of_more {s : State} {j : Job} (h : s.slot = some j) (hmore : j.moved < j.work.run.len) :
    jobOffer s = some ⟨.job, j.work.run.addr + j.moved, min 256 (j.work.run.len - j.moved),
      j.work.writes j.moved (min 256 (j.work.run.len - j.moved)), true⟩ := by
  simp only [jobOffer, h, if_pos hmore]

theorem verifyOffer_of_none {s : State} (h : s.banks.engine = none) : verifyOffer s = none := by
  simp only [verifyOffer, h]

theorem verifyOffer_of_more {s : State} {e : Engine} (h : s.banks.engine = some e) (hmore : e.bytes.length < 108721) :
    verifyOffer s = some ⟨.verify, bankAddr e.bank + e.bytes.length, min 256 (108721 - e.bytes.length), none, true⟩ := by
  simp only [verifyOffer, h]
  exact if_pos hmore

theorem verifyOffer_of_done {s : State} {e : Engine} (h : s.banks.engine = some e) (hdone : 108721 ≤ e.bytes.length) :
    verifyOffer s = none := by
  simp only [verifyOffer, h]
  exact if_neg (Nat.not_lt.mpr hdone)

/-! ### Bursts of a run (R129) -/

theorem Memory.readRun_add (m : List Host.Cell) (i j a : Nat) :
    Memory.readRun m a (i + j) = Memory.readRun m a i ++ Memory.readRun m (a + i) j := by
  induction i generalizing a with
  | zero => simp [Memory.readRun]
  | succ i ih =>
    rw [Nat.succ_add, Memory.readRun, Memory.readRun, ih, List.cons_append, Nat.add_assoc a 1 i, Nat.add_comm 1 i]

/-- The first bursts of a run read its first bytes. -/
theorem readRun_bursts (m : List Host.Cell) (a n c : Nat) :
    ((List.range c).flatMap fun i => Memory.readRun m (a + 256 * i) (min 256 (n - 256 * i))) =
      Memory.readRun m a (min (256 * c) n) := by
  induction c with
  | zero => simp [Memory.readRun]
  | succ c ih =>
    rw [List.range_succ, List.flatMap_append, ih, List.flatMap_singleton]
    by_cases hmore : 256 * c ≤ n
    · rw [Nat.min_eq_left hmore, ← Memory.readRun_add]
      congr 1
      omega
    · rw [Nat.min_eq_right (by omega), Nat.min_eq_right (by omega : n ≤ 256 * (c + 1)), Nat.sub_eq_zero_of_le (by omega)]
      simp [Memory.readRun]

theorem Run.readRun_cut (r : Run) (m : List Host.Cell) :
    (r.cut.flatMap fun x => Memory.readRun m x.addr x.len) = Memory.readRun m r.addr r.len := by
  rw [Run.cut, List.flatMap_map, readRun_bursts, Nat.min_eq_right (by omega)]

theorem Run.getElem?_cut (r : Run) {i : Nat} (h : i < (r.len + 255) / 256) :
    r.cut[i]? = some ⟨r.addr + 256 * i, min 256 (r.len - 256 * i)⟩ := by
  simp [Run.cut, h]

theorem Run.length_cut (r : Run) : r.cut.length = (r.len + 255) / 256 := by
  simp [Run.cut]

end Sys2Proof.Machine
end

section
/-! The grant, the offers and the bursts of a run, clause by clause (R129 to R132; O48). -/

namespace Sys2Proof.Machine

/-- The one grant of a free port follows the order of the offers (R132). -/
theorem arbitrate_follows_the_order {s : State} (hp : s.arb.port = none) (hm : s.memStart = .complete) (ht : s.Takes) :
    (∀ b, scanOffer s.out = some b → arbitrate s = s.setArb { s.arb with port := some b }) ∧
    (scanOffer s.out = none →
      (∀ (d : Fin 4) (b : Burst), camOffer s (s.arb.lastCam + 1 + d) = some b →
        (∀ d' : Fin 4, d' < d → camOffer s (s.arb.lastCam + 1 + d') = none) →
        arbitrate s = s.setArb { s.arb with port := some b, lastCam := s.arb.lastCam + 1 + d }) ∧
      ((∀ c : Fin 4, camOffer s c = none) →
        (∀ b, compOffer s = some b → arbitrate s = s.setArb { s.arb with port := some b }) ∧
        (compOffer s = none →
          (∀ b src, auxOffer s = some (b, src) →
            arbitrate s = s.setArb { s.arb with port := some b, auxLast := src }) ∧
          (auxOffer s = none → arbitrate s = s)))) := by
  rw [arbitrate_of_free hp hm ht]
  refine ⟨fun b => grant_of_scan, fun hscan => ⟨fun d b hb hlow => ?_, fun hcams => ?_⟩⟩
  · exact grant_of_camera hscan (camerasOffer_of_first hb hlow)
  · have hnone := camerasOffer_of_none hcams
    exact ⟨fun b => grant_of_comp hscan hnone, fun hcomp =>
      ⟨fun b src => grant_of_aux hscan hnone hcomp, grant_of_none hscan hnone hcomp⟩⟩

/-- The composer offers the later stage first, and a tile-map run last (R130). -/
theorem compOffer_follows_the_stages {s : State} (hs : s.comp.state ≠ .idle) :
    (∀ t px n, s.comp.store = some ⟨t, px, n⟩ → n < 3072 → compOffer s = some ⟨.store,
      outAddr t.slot + 3072 * t.index + n, min 256 (3072 - n), some (slice px n 256), true⟩) ∧
    ((∀ st, s.comp.store = some st → 3072 ≤ st.written) →
      (∀ t f r todo g px, s.comp.sample = some ⟨t, f, r :: todo, g, px⟩ →
        compOffer s = some ⟨.sample, r.addr, r.len, none, true⟩) ∧
      ((∀ x, s.comp.sample = some x → x.todo = []) →
        (∀ t r todo g, s.comp.fetch = some ⟨t, r :: todo, g⟩ →
          compOffer s = some ⟨.fetch, r.addr, r.len, none, true⟩) ∧
        ((∀ x, s.comp.fetch = some x → x.todo = []) → compOffer s = mapOffer s))) := by
  rw [compOffer_of_composing hs]
  refine ⟨fun t px n hstore hmore => ?_, fun hstore => ⟨fun t f r todo g px hsample => ?_, fun hsample =>
    ⟨fun t r todo g hfetch => ?_, fun hfetch => ?_⟩⟩⟩
  · rw [storeOffer_of_more hstore hmore, Option.some_or]
  · rw [storeOffer_of_done hstore, sampleOffer_of_more hsample, Option.none_or, Option.some_or]
  · rw [storeOffer_of_done hstore, sampleOffer_of_done hsample, fetchOffer_of_more hfetch, Option.none_or, Option.none_or,
      Option.some_or]
  · rw [storeOffer_of_done hstore, sampleOffer_of_done hsample, fetchOffer_of_done hfetch, Option.none_or, Option.none_or,
      Option.none_or]

/-- The bytes of a job's next burst. -/
theorem JobWork.writes_eq (w : JobWork) (i n : Nat) : w.writes i n = match w with
    | .bankFill _ => some ((List.range n).map fun k => if i + k < 100880 then 0xFF#8 else 0#8)
    | .bankWrite _ _ _ data => some (slice data i n)
    | .bankRead _ _ _ _ => none
    | .bodyWrite _ _ data => some (slice data i n) := by
  cases w <;> rfl

/-- AUX serves its one source with a burst, or the one not served last (R131). -/
theorem auxOffer_cases (s : State) :
    (∀ j v, jobOffer s = some j → verifyOffer s = some v → auxOffer s = match s.arb.auxLast with
      | .job => some (v, .verify)
      | .verify => some (j, .job)) ∧
    (∀ j, jobOffer s = some j → verifyOffer s = none → auxOffer s = some (j, .job)) ∧
    (∀ v, jobOffer s = none → verifyOffer s = some v → auxOffer s = some (v, .verify)) ∧
    (jobOffer s = none → verifyOffer s = none → auxOffer s = none) := by
  refine ⟨fun j v hj hv => ?_, fun j hj hv => ?_, fun v hj hv => ?_, fun hj hv => ?_⟩
  · cases hlast : s.arb.auxLast <;> simp only [auxOffer, hj, hv, hlast]
  · simp only [auxOffer, hj, hv]
  · simp only [auxOffer, hj, hv]
  · simp only [auxOffer, hj, hv]

/-- Settles O48: the order of the grant, then each requester's offer by what it has left. -/
theorem grantFollowsTheOrder : Obligations.GrantFollowsTheOrder := by
  unfold Obligations.GrantFollowsTheOrder
  refine ⟨?held, fun s => arbitrate_follows_the_order, ?scan, ?camera, ?comp, ?aux, ?cut⟩
  case held =>
    intro s h
    refine arbitrate_of_held s (h.imp Option.isSome_iff_ne_none.mpr fun hm => .inl ?_)
    exact s.starting_eq_true_iff.mpr hm
  case scan =>
    intro o
    refine ⟨?_, fun k l r p => scanOffer_of_line⟩
    rintro (hsource | hplaces)
    · exact scanOffer_of_no_source hsource
    · exact scanOffer_of_no_line hplaces
  case camera =>
    intro s c
    refine ⟨fun h => ?_, fun l rest h => ?_⟩
    · simp only [camOffer, h]
    · simp only [camOffer, h]
  case comp =>
    intro s
    refine ⟨compOffer_of_idle, fun hs => ?_⟩
    obtain ⟨hstore, hrest⟩ := compOffer_follows_the_stages hs
    refine ⟨hstore, fun hstored => ?_⟩
    obtain ⟨hsample, hrest⟩ := hrest hstored
    refine ⟨hsample, fun hsampled => ?_⟩
    obtain ⟨hfetch, hmap⟩ := hrest hsampled
    refine ⟨hfetch, ?_⟩
    intro hfetched m kept reads
    rw [hmap hfetched]
    constructor
    · intro pair hpair hreads hindex run
      exact ⟨fun hmissing => mapOffer_of_wanted (Composer.wantedRun_of_missing hreads hindex hmissing) hpair,
        fun hkept hm hnext => mapOffer_of_wanted (Composer.wantedRun_of_next_missing hreads hindex hkept hm hnext) hpair,
        fun hkept hnext => mapOffer_of_none (Composer.wantedRun_of_both_kept hreads hindex hkept hnext)⟩
    · exact fun h => mapOffer_of_none (Composer.wantedRun_of_no_reads h)
  case aux =>
    intro s
    refine ⟨?_, jobOffer_of_none, verifyOffer_of_none, fun e he => ⟨verifyOffer_of_more he, verifyOffer_of_done he⟩,
      auxOffer_cases s⟩
    intro j hj n
    refine ⟨?_, fun hmore => ?_, jobOffer_of_done hj⟩
    · cases j.work <;> rfl
    · have hwrites := j.work.writes_eq j.moved n
      rw [jobOffer_of_more hj hmore]
      exact congrArg (fun w => some (⟨.job, j.work.run.addr + j.moved, n, w, true⟩ : Burst)) hwrites
  case cut =>
    exact fun r m => ⟨r.length_cut, fun i => r.getElem?_cut, r.readRun_cut m⟩

end Sys2Proof.Machine
end
